-- ==== Sys2Proof/Word.lean ====
section
/-! DEFINITION. The two word types of the machine: rule R5 fixes 8-bit data and 16-bit addresses. -/

namespace Sys2Proof

/-- A data register or a memory cell: 8 bits (rule R5). -/
abbrev Byte := BitVec 8

/-- A register pair, `PC`, `SP` or an address: 16 bits (rule R5). -/
abbrev Word := BitVec 16

end Sys2Proof
end

