-- ==== Sys2Proof/Machine/Bits.lean ====
section
/-! DEFINITION. Bit-field, byte-order and sign-extension helpers (rules R10, R11, R22, R76). -/

namespace Sys2Proof

/-- `hi :: lo` (rules R10, R22, R76). -/
def join (hi lo : Byte) : Word := hi ++ lo

/-- `w[15:8]`. -/
def hiByte (w : Word) : Byte := w.extractLsb' 8 8

/-- `w[7:0]`. -/
def loByte (w : Word) : Byte := w.extractLsb' 0 8

/-- `sext_16(v)` (rule R11). -/
def sext16 (v : Byte) : Word := v.signExtend 16

/-- `v[i]`, numbered from the least significant bit (rule R10). -/
def bit {w : Nat} (v : BitVec w) (i : Nat) : Bool := v.getLsbD i

/-- The number 0 or 1 of one bit. -/
def bitNat (b : Bool) : Nat := if b then 1 else 0

/-- `0xFF00 | n`: an address of the page (rules R142, R182 to R185). -/
def pageAddr (n : Byte) : Word := join 0xFF#8 n

/-- `x`, the 2-bit group (rule R141). -/
def xOf (op : Byte) : Nat := op.toNat / 64

/-- `y`, the 3-bit sub-selector (rule R141). -/
def yOf (op : Byte) : Nat := op.toNat / 8 % 8

/-- `z`, the 3-bit operand selector (rule R141). -/
def zOf (op : Byte) : Nat := op.toNat % 8

/-- `p`, the pair index (rule R141). -/
def pOf (op : Byte) : Nat := yOf op / 2

/-- `q`, the parity (rule R141). -/
def qOf (op : Byte) : Nat := yOf op % 2

end Sys2Proof
end

