-- ==== Sys2Proof/Machine/Colour.lean ====
section
/-! DEFINITION. The two presentation conversions of rules R6 and R431, parameters of the machine, as plain data. -/

namespace Sys2Proof

/-- A 24-bit colour, red :: green :: blue (rule R431). -/
abbrev Colour := BitVec 24

/-- `SHADE_RGB` (rules R6, R431): the colour of each of the four shades. -/
structure Shades where
  shade0 : Colour
  shade1 : Colour
  shade2 : Colour
  shade3 : Colour
deriving DecidableEq, Repr

/-- The default of `SHADE_RGB` (rule R431). -/
def Shades.standard : Shades where
  shade0 := 0xFFFFFF#24
  shade1 := 0xAAAAAA#24
  shade2 := 0x555555#24
  shade3 := 0x000000#24

/-- `SHADE_RGB(v)`. On generation 1 the frame buffer holds shades 0 to 3 (rules R420, R430). -/
def Shades.at (t : Shades) (v : BitVec 15) : Colour :=
  match v.toNat with
  | 0 => t.shade0
  | 1 => t.shade1
  | 2 => t.shade2
  | _ => t.shade3

/-- One 5-bit channel as 8 bits: `(k << 3) | (k >> 2)` (rule R431). -/
def channel8 (k : BitVec 5) : Byte := k ++ k.extractLsb' 2 3

/-- The default of `RGB555_TO_888` (rule R431). -/
def rgb555to888 (v : BitVec 15) : Colour :=
  channel8 (v.extractLsb' 0 5) ++ channel8 (v.extractLsb' 5 5) ++ channel8 (v.extractLsb' 10 5)

/-- `RGB555_TO_888` (rules R6, R431) as data: the colours it converts otherwise than the default, each with what it
becomes, in rising order (log entry 7). Every function is one such list: `Colours.of_function` in Laws/Colour.lean. -/
abbrev Colours := List (Nat × Colour)

/-- The default: no exception (rule R431). -/
def Colours.standard : Colours := []

/-- `RGB555_TO_888(v)`. -/
def Colours.at : Colours → BitVec 15 → Colour
  | [], v => rgb555to888 v
  | (k, x) :: r, v => if k = v.toNat then x else Colours.at r v

/-- The colours rise from `lo` on, are 15-bit numbers, and none is listed with what the default gives it. -/
def Colours.wfFrom : Nat → Colours → Bool
  | _, [] => true
  | lo, (k, x) :: r =>
    decide (lo ≤ k) && decide (k < 32768) && decide (x ≠ rgb555to888 (BitVec.ofNat 15 k)) && Colours.wfFrom (k + 1) r

/-- The canonical form: equal conversions are equal lists. -/
def Colours.wf (t : Colours) : Bool := Colours.wfFrom 0 t

end Sys2Proof
end

