-- ==== Sys2Proof/Config.lean ====
section
/-! DEFINITION. The configuration record of rule R6; `BOOT`, its record of reset values, is `Machine.Boot`.
A configuration the loader must refuse (rule R493, U8) cannot be written down in these types, but for
the length of the ROM image, which `Config.wf` checks. -/

namespace Sys2Proof

/-- `GEN` (rule R6): the hardware generation. -/
inductive Gen where
  /-- generation 1, monochrome -/
  | one
  /-- generation 2, colour -/
  | two
deriving DecidableEq, Repr

/-- `MAPPER` (rule R6): "mapper kind (one of four variants)". -/
inductive Mapper where
  | variant1 | variant2 | variant3 | variant4
deriving DecidableEq, Repr

/-- `RAM_BANKS` (rule R6): 0, 1, 4, 8 or 16 banks of 8 KiB. -/
inductive RamBanks where
  | none | one | four | eight | sixteen
deriving DecidableEq, Repr

/-- `ILLEGAL_POLICY` (rules R6, R336): what the eleven unassigned opcodes do. -/
inductive IllegalPolicy where
  | lock | nop
deriving DecidableEq, Repr

/-- The configuration record of rule R6. It never changes while the machine runs; it stands in the
state only because `step` takes nothing but a state (log entry 1). -/
structure Config where
  gen : Gen
  mapper : Mapper
  /-- `ROM_BANKS` is `2 * 2 ^ romCode`: a power of two from 2 to 512. -/
  romCode : Fin 9
  ramBanks : RamBanks
  /-- `OPEN_BUS`, the sentinel (rules R6, R85, R89). -/
  openBus : Byte
  illegalPolicy : IllegalPolicy
  /-- `ROM`: "raw ROM bytes (immutable after load)", in the canonical form of `Memory.wf`. -/
  rom : List Host.Cell
  /-- `SHADE_RGB`, read when `gen` is 1 (rule R431). -/
  shades : Shades
  /-- `RGB555_TO_888`, read when `gen` is 2 (rule R431), in the canonical form of `Colours.wf`. -/
  colours : Colours
deriving DecidableEq, Repr

end Sys2Proof
end

