-- ==== Sys2Proof/Machine/Memory.lean ====
section
/-! DEFINITION. The storage arrays of rule R30 as sparse lists in one canonical form. -/

namespace Sys2Proof.Machine

/-- A storage array of `w`-bit cells (rule R30): index and value, indices strictly rising, no listed value
equal to `unlisted`. `Memory 8` is a list of `Host.Cell`. -/
abbrev Memory (w : Nat) := List (Nat × BitVec w)

/-- What an unlisted cell reads as: 0 (rules R30, R66: the `BOOT` defaults are "all 0"; log entry 3). -/
def unlisted (w : Nat) : BitVec w := 0#w

/-- The cell with index `a`. -/
def Memory.read {w : Nat} : Memory w → Nat → BitVec w
  | [], _ => unlisted w
  | (k, v) :: r, a => if k = a then v else Memory.read r a

/-- The array without an entry for index `a`. -/
def Memory.erase {w : Nat} : Memory w → Nat → Memory w
  | [], _ => []
  | (k, v) :: r, a => if k = a then Memory.erase r a else (k, v) :: Memory.erase r a

/-- Puts an entry in front of the first one with a larger index. -/
def Memory.insert {w : Nat} : Memory w → Nat → BitVec w → Memory w
  | [], a, v => [(a, v)]
  | (k, x) :: r, a, v => if a < k then (a, v) :: (k, x) :: r else (k, x) :: Memory.insert r a v

/-- Stores `v` in the cell with index `a`; storing what an unlisted cell reads as removes the entry. -/
def Memory.write {w : Nat} (m : Memory w) (a : Nat) (v : BitVec w) : Memory w :=
  if v = unlisted w then Memory.erase m a else Memory.insert (Memory.erase m a) a v

/-- The entries have strictly rising indices, none below `lo`, and none holds the unlisted value. -/
def Memory.wfFrom {w : Nat} : Nat → Memory w → Bool
  | _, [] => true
  | lo, (k, v) :: r => decide (lo ≤ k) && decide (v ≠ unlisted w) && Memory.wfFrom (k + 1) r

/-- The canonical form: equal arrays are equal lists. -/
def Memory.wf {w : Nat} (m : Memory w) : Bool := Memory.wfFrom 0 m

/-- Every listed index is below `n`, the array's size. -/
def Memory.below {w : Nat} (n : Nat) : Memory w → Bool
  | [] => true
  | (k, _) :: r => decide (k < n) && Memory.below n r

end Sys2Proof.Machine
end

