-- ==== Sys2Proof/Machine/Parts.lean ====
section
/-! DEFINITION. The parts of the state, one record for each group of registers of `10_state.md`. -/

namespace Sys2Proof.Machine

/-- `ei_delay` (rule R28): the values 0, 1, 2 of the one-instruction delay of `EI`. -/
inductive EiDelay where
  | zero | one | two
deriving DecidableEq, Repr

/-- `ppu_mode` (rule R52). -/
inductive PpuMode where
  | search | drawing | hblank | vblank
deriving DecidableEq, Repr

/-- The five request sources of rule R442, in bit order. -/
inductive Source where
  | vblank | status | timer | serial | input
deriving DecidableEq, Repr

/-- The register file (rule R20). The pairs are views (rule R22). -/
structure Regs where
  a : Byte
  f : Byte
  b : Byte
  c : Byte
  d : Byte
  e : Byte
  h : Byte
  l : Byte
  sp : Word
  pc : Word
deriving DecidableEq, Repr

/-- CPU run state (rules R27, R28). `cycles` is the count the last `CPU.step` returned (rules R8, R11):
it is how the count reaches the PPU and the Timer (log entry 4). -/
structure Run where
  halted : Bool
  ime : Bool
  ds : Bool
  eiDelay : EiDelay
  locked : Bool
  speedArmed : Bool
  cycles : Nat
deriving DecidableEq, Repr

/-- Cartridge state (rules R30, R31); the ROM bytes stand in the configuration. -/
structure Cart where
  eram : Memory 8
  romBank : BitVec 9
  ramBank : BitVec 4
  ramEnable : Bool
  bankMode : Bool
deriving DecidableEq, Repr

/-- The shared interrupt registers (rules R32 to R34). `STAT[1:0]` is the code of `ppu_mode`, which is
stored once, in `Lcd.mode` (rule R52, log entry 5). -/
structure Irq where
  /-- `IE` -/
  ie : Byte
  /-- `IF[4:0]` -/
  iflag : BitVec 5
  /-- `STAT[6:3]` -/
  statEnable : BitVec 4
  /-- `STAT[2]` -/
  coincidence : Bool
deriving DecidableEq, Repr

/-- Display registers and the pixel processor's own state (rules R35 to R40, R49 to R52). -/
structure Lcd where
  lcdc : Byte
  scy : Byte
  scx : Byte
  ly : Byte
  lyc : Byte
  bgp : Byte
  obp0 : Byte
  obp1 : Byte
  wy : Byte
  wx : Byte
  mode : PpuMode
  counter : Int
  wlc : Byte
  /-- `FB[y][x]` is the cell `160 * y + x` (rule R430). -/
  fb : Memory 15
  bgPal : Memory 8
  objPal : Memory 8
  bgIdx : BitVec 6
  bgInc : Bool
  objIdx : BitVec 6
  objInc : Bool
  opri : Bool
deriving DecidableEq, Repr

/-- The arrays behind the address space and their bank selectors (rules R30, R45, R46). -/
structure Ram where
  /-- `VRAM[b][o]` is the cell `0x2000 * b + o`. -/
  vram : Memory 8
  /-- `WRAM[b][o]` is the cell `0x1000 * b + o`. -/
  wram : Memory 8
  oam : Memory 8
  io : Memory 8
  vramBank : BitVec 1
  wramSel : BitVec 3
deriving DecidableEq, Repr

/-- The `DMA` port (rule R41) and the block-DMA state (rule R47). -/
structure Dma where
  port : Byte
  src : Word
  dst : Word
  rem : Byte
  active : Bool
deriving DecidableEq, Repr

/-- The Timer's state (rule R466). -/
structure Tim where
  divCounter : Word
  timaAcc : Nat
  tima : Byte
  tma : Byte
  tac : BitVec 3
deriving DecidableEq, Repr

/-- The state behind `P1` (rule R42). -/
structure Joypad where
  select : BitVec 2
  inputMask : Byte
deriving DecidableEq, Repr

/-- What passes between the Host and the machine (rules R431, R470): the masks the Host will offer, one
entry an iteration, and the frames handed to it, newest first (log entries 6, 7). -/
structure HostIo where
  masks : List (Option Byte)
  frames : List (Memory 15)
deriving DecidableEq, Repr

end Sys2Proof.Machine
end

