-- ==== Sys2Proof/Machine/Boot.lean ====
section
/-! DEFINITION. The configuration reset carries, and the boot record of rule R66 with its defaults. -/

namespace Sys2Proof

/-- The configuration the reset state of this model carries (log entry 2, DESIGN CHOICE): the source's own
scenario of rule R493 (`MAPPER` = 1, `ROM_BANKS` = 8, `RAM_BANKS` = 1), `GEN` = 1 as the spec's test vectors take
it, the decided defaults `OPEN_BUS` = 0xFF and `lock`, an image with no byte listed, and the default conversions
of rule R431. -/
def Config.scenario : Config where
  gen := .one
  mapper := .variant1
  romCode := 2
  ramBanks := .one
  openBus := 0xFF#8
  illegalPolicy := .lock
  rom := []
  shades := .standard
  colours := .standard

namespace Machine

/-- `BOOT` (rules R6, R66): the state after reset, all of it. The configuration and what the Host has passed are no
part of it. -/
structure Boot where
  regs : Regs
  run : Run
  cart : Cart
  irq : Irq
  lcd : Lcd
  ram : Ram
  dma : Dma
  tim : Tim
  pad : Joypad
deriving DecidableEq, Repr

/-- The register file of rule R66, one column for each generation. -/
def Regs.standard : Gen → Regs
  | .one =>
    { a := 0x01#8, f := 0xB0#8, b := 0x00#8, c := 0x13#8, d := 0x00#8, e := 0xD8#8, h := 0x01#8, l := 0x4D#8
      sp := 0xFFFE#16, pc := 0x0100#16 }
  | .two =>
    { a := 0x11#8, f := 0x80#8, b := 0x00#8, c := 0x00#8, d := 0xFF#8, e := 0x56#8, h := 0x00#8, l := 0x0D#8
      sp := 0xFFFE#16, pc := 0x0100#16 }

/-- The defaults of rule R66, and for the Timer, which the table leaves out, those of rule R466; all arrays hold 0. The
count is the model's own field (log entry 18). -/
def Boot.standard (g : Gen) : Boot where
  regs := .standard g
  run :=
    { halted := false, ime := false, ds := false, eiDelay := .zero, locked := false, speedArmed := false, cycles := 0 }
  cart := { eram := [], romBank := 1#9, ramBank := 0#4, ramEnable := false, bankMode := false }
  irq := { ie := 0x00#8, iflag := 0x01#5, statEnable := 0#4, coincidence := true }
  lcd :=
    { lcdc := 0x91#8, scy := 0x00#8, scx := 0x00#8, ly := 0#8, lyc := 0#8, bgp := 0xFC#8, obp0 := 0xFF#8, obp1 := 0xFF#8
      wy := 0x00#8, wx := 0x00#8, mode := .search, counter := 80, wlc := 0#8, fb := [], bgPal := [], objPal := []
      bgIdx := 0#6, bgInc := false, objIdx := 0#6, objInc := false, opri := false }
  ram := { vram := [], wram := [], oam := [], io := [], vramBank := 0#1, wramSel := 0#3 }
  dma := { port := 0xFF#8, src := 0x0000#16, dst := 0x8000#16, rem := 0#8, active := false }
  tim := { divCounter := 0xAB00#16, timaAcc := 0, tima := 0x00#8, tma := 0x00#8, tac := 0#3 }
  pad := { select := 3#2, inputMask := 0x00#8 }

end Machine

end Sys2Proof
end

