-- ==== Sys2Proof/Machine/State.lean ====
section
/-! DEFINITION. The state of the machine (`10_state.md`), the reasons a step can stop, and reset. -/

namespace Sys2Proof.Machine

/-- The whole machine. -/
structure State where
  cfg : Config
  regs : Regs
  run : Run
  cart : Cart
  irq : Irq
  lcd : Lcd
  ram : Ram
  dma : Dma
  tim : Tim
  pad : Joypad
  host : HostIo
deriving DecidableEq, Repr

/-- Why the machine stops with a fault: never. Rule R440: "No instruction, no encoding, no address and
no operand value raises an exception, fault, abort or trap." The type has no constructor, so nobody
raises one and no claim can rest on one (safe). -/
inductive Fault where
deriving DecidableEq, Repr

/-- Why a step is refused. -/
inductive Refusal where
  /-- An arm of `exec` that has no meaning yet would raise it; no arm of this model does. Safe: it stops. -/
  | notModelled (mnemonic : String)
deriving DecidableEq, Repr

/-- The state right after power-on with the configuration `cfg` and the boot record `b` (rules R66, R490,
R491). Nothing has passed between the Host and the machine yet (log entry 18). -/
def State.boot (cfg : Config) (b : Boot) : State where
  cfg := cfg
  regs := b.regs
  run := b.run
  cart := b.cart
  irq := b.irq
  lcd := b.lcd
  ram := b.ram
  dma := b.dma
  tim := b.tim
  pad := b.pad
  host := { masks := [], frames := [] }

/-- The machine right after reset: the defaults of rule R66 on the configuration of log entry 2. -/
def State.reset : State := State.boot Config.scenario (Boot.standard Config.scenario.gen)

end Sys2Proof.Machine
end

