-- ==== Sys2Proof/Machine/Bus.lean ====
section
/-! DEFINITION. The Bus (`20_memory.md`): the region table, the register page, the mappers, the two
copy engines, and the two primitives `memRead` (rule R72) and `memWrite` (rule R73). -/

namespace Sys2Proof.Machine

/-! ### Quantities derived from the configuration (rule R6) -/

/-- `ROM_BANKS`. -/
def romBanks (c : Config) : Nat := 2 * 2 ^ c.romCode.val

/-- `RAM_BANKS`. -/
def ramBanks (c : Config) : Nat :=
  match c.ramBanks with
  | .none => 0
  | .one => 1
  | .four => 4
  | .eight => 8
  | .sixteen => 16

/-- `VRAM_BANKS`. -/
def vramBanks (c : Config) : Nat :=
  match c.gen with
  | .one => 1
  | .two => 2

/-- `WRAM_BANKS` (decision D20). -/
def wramBanks (c : Config) : Nat :=
  match c.gen with
  | .one => 2
  | .two => 8

/-- A bank index masked with `ROM_BANKS - 1` (rule R118). -/
def romMask (c : Config) (n : Nat) : BitVec 9 := BitVec.ofNat 9 (n &&& (romBanks c - 1))

/-! ### The region table (rule R71) -/

/-- `vram_bank` (rule R45): the constant 0 on generation 1. -/
def vramBank (s : State) : Nat :=
  match s.cfg.gen with
  | .one => 0
  | .two => s.ram.vramBank.toNat

/-- `wram_bank` (rule R46): the constant 1 on generation 1; the selector value 0 means 1. -/
def wramBank (s : State) : Nat :=
  match s.cfg.gen with
  | .one => 1
  | .two => if s.ram.wramSel = 0#3 then 1 else s.ram.wramSel.toNat

/-- Where an address lands: a cell of an array, nowhere, or a byte of the page. -/
inductive Place where
  | rom (k : Nat)
  | vram (k : Nat)
  | eram (k : Nat)
  | wram (k : Nat)
  | oam (k : Nat)
  /-- disabled or absent external RAM, or the unusable range: `OPEN_BUS`, writes dropped -/
  | nowhere
  /-- the register page; `i` is `a - 0xFF00` -/
  | page (i : Byte)
deriving DecidableEq, Repr

/-- The work-RAM cell of an address from 0xC000 to 0xDFFF (rule R86). -/
def wramCell (s : State) (n : Nat) : Nat :=
  if n < 0xD000 then n - 0xC000 else wramBank s * 0x1000 + (n - 0xD000)

/-- The external-RAM cell of an address from 0xA000 to 0xBFFF (rule R85). -/
def eramCell (s : State) (n : Nat) : Nat :=
  (s.cart.ramBank.toNat &&& (ramBanks s.cfg - 1)) * 0x2000 + (n - 0xA000)

/-- External RAM answers: enabled, and declared by the cartridge (rule R85). -/
def eramOn (s : State) : Bool := s.cart.ramEnable && decide (0 < ramBanks s.cfg)

/-- The region table, "first match wins" (rules R71, R82 to R90). -/
def place (s : State) (a : Word) : Place :=
  if a.toNat < 0x4000 then .rom a.toNat
  else if a.toNat < 0x8000 then .rom (s.cart.romBank.toNat * 0x4000 + (a.toNat - 0x4000))
  else if a.toNat < 0xA000 then .vram (vramBank s * 0x2000 + (a.toNat - 0x8000))
  else if a.toNat < 0xC000 then if eramOn s then .eram (eramCell s a.toNat) else .nowhere
  else if a.toNat < 0xE000 then .wram (wramCell s a.toNat)
  else if a.toNat < 0xFE00 then .wram (wramCell s (a.toNat - 0x2000))
  else if a.toNat < 0xFEA0 then .oam (a.toNat - 0xFE00)
  else if a.toNat < 0xFF00 then .nowhere
  else .page (loByte a)

/-! ### The register page (rules R90, R91) -/

/-- The 32 special-cased registers of rule R91, and the generic byte of rule R100. -/
inductive PageReg where
  | p1 | div | tima | tma | tac | iflag | lcdc | stat | scy | scx | ly | lyc | dma | bgp | obp0 | obp1 | wy | wx
  | key1 | vbk | hdma1 | hdma2 | hdma3 | hdma4 | hdma5 | bcps | bcpd | ocps | ocpd | opri | svbk | ie
  | plain
deriving DecidableEq, Repr

/-- A register that exists on generation 2 only; on generation 1 its address is a plain byte (rule R100). -/
def onlyGen2 (g : Gen) (r : PageReg) : PageReg :=
  match g with
  | .one => .plain
  | .two => r

/-- The table of rule R91, by the low byte of the address. -/
def pageReg (g : Gen) (i : Byte) : PageReg :=
  match i.toNat with
  | 0x00 => .p1
  | 0x04 => .div
  | 0x05 => .tima
  | 0x06 => .tma
  | 0x07 => .tac
  | 0x0F => .iflag
  | 0x40 => .lcdc
  | 0x41 => .stat
  | 0x42 => .scy
  | 0x43 => .scx
  | 0x44 => .ly
  | 0x45 => .lyc
  | 0x46 => .dma
  | 0x47 => .bgp
  | 0x48 => .obp0
  | 0x49 => .obp1
  | 0x4A => .wy
  | 0x4B => .wx
  | 0x4D => onlyGen2 g .key1
  | 0x4F => onlyGen2 g .vbk
  | 0x51 => onlyGen2 g .hdma1
  | 0x52 => onlyGen2 g .hdma2
  | 0x53 => onlyGen2 g .hdma3
  | 0x54 => onlyGen2 g .hdma4
  | 0x55 => onlyGen2 g .hdma5
  | 0x68 => onlyGen2 g .bcps
  | 0x69 => onlyGen2 g .bcpd
  | 0x6A => onlyGen2 g .ocps
  | 0x6B => onlyGen2 g .ocpd
  | 0x6C => onlyGen2 g .opri
  | 0x70 => onlyGen2 g .svbk
  | 0xFF => .ie
  | _ => .plain

/-- The code of a mode in `STAT[1:0]` (rules R34, R351). -/
def modeCode : PpuMode → BitVec 2
  | .hblank => 0#2
  | .vblank => 1#2
  | .search => 2#2
  | .drawing => 3#2

/-- `STAT` as read: `0x80 | STAT[6:0]` (rule R34). -/
def statRead (s : State) : Byte :=
  1#1 ++ s.irq.statEnable ++ BitVec.ofBool s.irq.coincidence ++ modeCode s.lcd.mode

/-- `P1` as read (rule R42). -/
def p1Read (p : Joypad) : Byte :=
  let dirs : BitVec 4 := if p.select.getLsbD 0 then 0#4 else p.inputMask.extractLsb' 0 4
  let buttons : BitVec 4 := if p.select.getLsbD 1 then 0#4 else p.inputMask.extractLsb' 4 4
  3#2 ++ p.select ++ ~~~ (dirs ||| buttons)

/-- `KEY1` as read: `ds << 7 | 0x7E | speed_armed` (rule R44). -/
def key1Read (r : Run) : Byte := BitVec.ofBool r.ds ++ 0x3F#6 ++ BitVec.ofBool r.speedArmed

/-- `HDMA5` as read (rule R48). -/
def hdma5Read (d : Dma) : Byte := BitVec.ofBool (!d.active) ++ (d.rem - 1#8).extractLsb' 0 7

/-- The read rule of every register of the page (rules R32 to R51, R466, R100). -/
def pageRead (s : State) (i : Byte) : Byte :=
  match pageReg s.cfg.gen i with
  | .p1 => p1Read s.pad
  | .div => hiByte s.tim.divCounter
  | .tima => s.tim.tima
  | .tma => s.tim.tma
  | .tac => 0x1F#5 ++ s.tim.tac
  | .iflag => 7#3 ++ s.irq.iflag
  | .lcdc => s.lcd.lcdc
  | .stat => statRead s
  | .scy => s.lcd.scy
  | .scx => s.lcd.scx
  | .ly => s.lcd.ly
  | .lyc => s.lcd.lyc
  | .dma => s.dma.port
  | .bgp => s.lcd.bgp
  | .obp0 => s.lcd.obp0
  | .obp1 => s.lcd.obp1
  | .wy => s.lcd.wy
  | .wx => s.lcd.wx
  | .key1 => key1Read s.run
  | .vbk => 0x7F#7 ++ s.ram.vramBank
  | .hdma1 => s.cfg.openBus
  | .hdma2 => s.cfg.openBus
  | .hdma3 => s.cfg.openBus
  | .hdma4 => s.cfg.openBus
  | .hdma5 => hdma5Read s.dma
  | .bcps => BitVec.ofBool s.lcd.bgInc ++ 1#1 ++ s.lcd.bgIdx
  | .bcpd => s.lcd.bgPal.read s.lcd.bgIdx.toNat
  | .ocps => BitVec.ofBool s.lcd.objInc ++ 1#1 ++ s.lcd.objIdx
  | .ocpd => s.lcd.objPal.read s.lcd.objIdx.toNat
  | .opri => 0x7F#7 ++ BitVec.ofBool s.lcd.opri
  | .svbk => 0x1F#5 ++ s.ram.wramSel
  | .ie => s.irq.ie
  | .plain => s.ram.io.read i.toNat

/-- `MemRead(a, 1)` (rule R72). It answers a byte and no state: "No read changes any state". -/
def memRead (s : State) (a : Word) : Byte :=
  match place s a with
  | .rom k => Memory.read (w := 8) s.cfg.rom k
  | .vram k => s.ram.vram.read k
  | .eram k => s.cart.eram.read k
  | .wram k => s.ram.wram.read k
  | .oam k => s.ram.oam.read k
  | .nowhere => s.cfg.openBus
  | .page i => pageRead s i

/-- `MemRead(a, 2)`, low byte first (rules R11, R76). -/
def memRead16 (s : State) (a : Word) : Word := join (memRead s (a + 1#16)) (memRead s a)

/-! ### Requests and the line compare -/

/-- The bit of `IF` and `IE` a source has (rules R33, R442). -/
def Source.bitIndex : Source → Nat
  | .vblank => 0
  | .status => 1
  | .timer => 2
  | .serial => 3
  | .input => 4

/-- `raise_irq(n)` (rule R444): sets one bit of `IF` and nothing else. -/
def raiseIrq (n : Source) (s : State) : State :=
  { s with irq := { s.irq with iflag := s.irq.iflag ||| (1#5 <<< n.bitIndex) } }

/-- `raise_irq(n)` when `c` holds. -/
def raiseIf (c : Bool) (n : Source) (s : State) : State := if c then raiseIrq n s else s

/-- `CoincidenceUpdate()` (rule R362). `STAT[6]` is bit 3 of the stored enables. -/
def coincidenceUpdate (s : State) : State :=
  let new := decide (s.lcd.ly = s.lcd.lyc)
  let s1 := raiseIf (new && !s.irq.coincidence && bit s.irq.statEnable 3) .status s
  { s1 with irq := { s1.irq with coincidence := new } }

/-! ### The two copy engines -/

/-- A store into video RAM through the CPU's window (rule R84); `o` is `a - 0x8000`. -/
def vramWrite (s : State) (o : Nat) (v : Byte) : State :=
  { s with ram := { s.ram with vram := s.ram.vram.write (vramBank s * 0x2000 + o) v } }

/-- One byte of `CopyBlock()` (rule R130): read by the source's own rule, write at
`0x8000 | ((dma_dst + i) & 0x1FFF)`. -/
def copyByte (s : State) (i : Nat) : State :=
  vramWrite s ((s.dma.dst.toNat + i) % 0x2000) (memRead s (s.dma.src + BitVec.ofNat 16 i))

/-- `CopyBlock()` (rule R130). -/
def copyBlock (s : State) : State :=
  let s1 := (List.range 16).foldl copyByte s
  { s1 with dma := { s1.dma with
      src := s1.dma.src + 16#16
      dst := 0x8000#16 ||| ((s1.dma.dst + 16#16) &&& 0x1FFF#16)
      rem := s1.dma.rem - 1#8 } }

/-- `k` blocks, one after another. -/
def copyBlocks : Nat → State → State
  | 0, s => s
  | k + 1, s => copyBlocks k (copyBlock s)

/-- The write of `w` to `HDMA5` (rules R125 to R129). -/
def hdma5Write (s : State) (w : Byte) : State :=
  if s.dma.active && !bit w 7 then
    { s with dma := { s.dma with active := false } }
  else
    let s1 := { s with dma := { s.dma with rem := (w &&& 0x7F#8) + 1#8 } }
    if bit w 7 then { s1 with dma := { s1.dma with active := true } }
    else copyBlocks s1.dma.rem.toNat s1

/-- `HBlankDMA()` (rule R128). -/
def hblankDma (s : State) : State :=
  if s.dma.active then
    let s1 := copyBlock s
    if s1.dma.rem = 0#8 then { s1 with dma := { s1.dma with active := false } } else s1
  else s

/-- One byte of the sprite-table copy (rule R132). -/
def oamCopyByte (w : Byte) (s : State) (i : Nat) : State :=
  { s with ram := { s.ram with oam := s.ram.oam.write i (memRead s (join w 0#8 + BitVec.ofNat 16 i)) } }

/-- The write of `w` to `DMA` (rules R41, R132): stores it and copies 160 bytes. -/
def oamDmaWrite (s : State) (w : Byte) : State :=
  (List.range 160).foldl (oamCopyByte w) { s with dma := { s.dma with port := w } }

/-! ### Writes to the page -/

/-- The write rule of every register of the page (rules R32 to R51, R466, R100). -/
def pageWrite (s : State) (i : Byte) (v : Byte) : State :=
  match pageReg s.cfg.gen i with
  | .p1 => { s with pad := { s.pad with select := v.extractLsb' 4 2 } }
  | .div => { s with tim := { s.tim with divCounter := 0#16 } }
  | .tima => { s with tim := { s.tim with tima := v } }
  | .tma => { s with tim := { s.tim with tma := v } }
  | .tac => { s with tim := { s.tim with tac := v.extractLsb' 0 3 } }
  | .iflag => { s with irq := { s.irq with iflag := v.extractLsb' 0 5 } }
  | .lcdc => { s with lcd := { s.lcd with lcdc := v } }
  | .stat => { s with irq := { s.irq with statEnable := v.extractLsb' 3 4 } }
  | .scy => { s with lcd := { s.lcd with scy := v } }
  | .scx => { s with lcd := { s.lcd with scx := v } }
  | .ly => s
  | .lyc => coincidenceUpdate { s with lcd := { s.lcd with lyc := v } }
  | .dma => oamDmaWrite s v
  | .bgp => { s with lcd := { s.lcd with bgp := v } }
  | .obp0 => { s with lcd := { s.lcd with obp0 := v } }
  | .obp1 => { s with lcd := { s.lcd with obp1 := v } }
  | .wy => { s with lcd := { s.lcd with wy := v } }
  | .wx => { s with lcd := { s.lcd with wx := v } }
  | .key1 => { s with run := { s.run with speedArmed := bit v 0 } }
  | .vbk => { s with ram := { s.ram with vramBank := v.extractLsb' 0 1 } }
  | .hdma1 => { s with dma := { s.dma with src := join v (loByte s.dma.src) } }
  | .hdma2 => { s with dma := { s.dma with src := join (hiByte s.dma.src) (v &&& 0xF0#8) } }
  | .hdma3 => { s with dma := { s.dma with dst := join (0x80#8 ||| (v &&& 0x1F#8)) (loByte s.dma.dst) } }
  | .hdma4 => { s with dma := { s.dma with dst := join (hiByte s.dma.dst) (v &&& 0xF0#8) } }
  | .hdma5 => hdma5Write s v
  | .bcps => { s with lcd := { s.lcd with bgIdx := v.extractLsb' 0 6, bgInc := bit v 7 } }
  | .bcpd =>
    { s with lcd := { s.lcd with
        bgPal := s.lcd.bgPal.write s.lcd.bgIdx.toNat v
        bgIdx := if s.lcd.bgInc then s.lcd.bgIdx + 1#6 else s.lcd.bgIdx } }
  | .ocps => { s with lcd := { s.lcd with objIdx := v.extractLsb' 0 6, objInc := bit v 7 } }
  | .ocpd =>
    { s with lcd := { s.lcd with
        objPal := s.lcd.objPal.write s.lcd.objIdx.toNat v
        objIdx := if s.lcd.objInc then s.lcd.objIdx + 1#6 else s.lcd.objIdx } }
  | .opri => { s with lcd := { s.lcd with opri := bit v 0 } }
  | .svbk => { s with ram := { s.ram with wramSel := v.extractLsb' 0 3 } }
  | .ie => { s with irq := { s.irq with ie := v } }
  | .plain => { s with ram := { s.ram with io := s.ram.io.write i.toNat v } }

/-! ### The mappers (rules R110 to R118) -/

/-- The RAM-enable write (rule R111). -/
def ramEnableWrite (s : State) (w : Byte) : State :=
  { s with cart := { s.cart with ramEnable := decide (w &&& 0x0F#8 = 0x0A#8) } }

/-- Sets the ROM bank, masked to the bank count (rule R118). -/
def setRomBank (s : State) (n : Nat) : State :=
  { s with cart := { s.cart with romBank := romMask s.cfg n } }

/-- "bank 0 forced to 1", tested on the written field before masking (rules R112, R115, R116). -/
def zeroToOne (n : Nat) : Nat := if n = 0 then 1 else n

/-- Variant 1 (rules R111 to R114). -/
def mapper1Write (s : State) (a : Word) (w : Byte) : State :=
  if a.toNat < 0x2000 then ramEnableWrite s w
  else if a.toNat < 0x4000 then
    setRomBank s ((s.cart.romBank.toNat &&& 0x60) ||| zeroToOne (w.toNat &&& 0x1F))
  else if a.toNat < 0x6000 then
    if s.cart.bankMode then { s with cart := { s.cart with ramBank := BitVec.ofNat 4 (w.toNat &&& 0x03) } }
    else setRomBank s ((s.cart.romBank.toNat &&& 0x1F) ||| ((w.toNat &&& 0x03) <<< 5))
  else
    { s with cart := { s.cart with
        bankMode := bit w 0
        ramBank := if bit w 0 then s.cart.ramBank else 0#4 } }

/-- Variant 2 (rules R111, R115). -/
def mapper2Write (s : State) (a : Word) (w : Byte) : State :=
  if a.toNat < 0x4000 then
    if bit a 8 then setRomBank s (zeroToOne (w.toNat &&& 0x0F))
    else if a.toNat < 0x2000 then ramEnableWrite s w
    else s
  else s

/-- Variant 3 (rules R111, R116). -/
def mapper3Write (s : State) (a : Word) (w : Byte) : State :=
  if a.toNat < 0x2000 then ramEnableWrite s w
  else if a.toNat < 0x4000 then setRomBank s (zeroToOne (w.toNat &&& 0x7F))
  else if a.toNat < 0x6000 then { s with cart := { s.cart with ramBank := w.extractLsb' 0 4 } }
  else s

/-- Variant 4 (rules R111, R117). -/
def mapper4Write (s : State) (a : Word) (w : Byte) : State :=
  if a.toNat < 0x2000 then ramEnableWrite s w
  else if a.toNat < 0x3000 then setRomBank s ((s.cart.romBank.toNat &&& 0x100) ||| w.toNat)
  else if a.toNat < 0x4000 then setRomBank s ((s.cart.romBank.toNat &&& 0x0FF) ||| ((w.toNat &&& 1) <<< 8))
  else if a.toNat < 0x6000 then { s with cart := { s.cart with ramBank := w.extractLsb' 0 4 } }
  else s

/-- A write to 0x0000 to 0x7FFF: the rule of the configured mapper, never a change of `ROM` (rule R110). -/
def mapperWrite (s : State) (a : Word) (w : Byte) : State :=
  match s.cfg.mapper with
  | .variant1 => mapper1Write s a w
  | .variant2 => mapper2Write s a w
  | .variant3 => mapper3Write s a w
  | .variant4 => mapper4Write s a w

/-! ### The write primitive -/

/-- `MemWrite(a, 1, v)` (rule R73). -/
def memWrite (s : State) (a : Word) (v : Byte) : State :=
  match place s a with
  | .rom _ => mapperWrite s a v
  | .vram k => { s with ram := { s.ram with vram := s.ram.vram.write k v } }
  | .eram k => { s with cart := { s.cart with eram := s.cart.eram.write k v } }
  | .wram k => { s with ram := { s.ram with wram := s.ram.wram.write k v } }
  | .oam k => { s with ram := { s.ram with oam := s.ram.oam.write k v } }
  | .nowhere => s
  | .page i => pageWrite s i v

/-- `MemWrite(a, 2, v)`: the low byte at `a`, then the high byte at `a + 1` (rules R11, R76). -/
def memWrite16 (s : State) (a : Word) (v : Word) : State :=
  memWrite (memWrite s a (loByte v)) (a + 1#16) (hiByte v)

end Sys2Proof.Machine
end

