-- ==== Sys2Proof/Machine/Render.lean ====
section
/-! DEFINITION. The scanline rasteriser (`48_ppu_render.md`): `RenderLine()` (rule R432), the frame buffer and
the presentation (rules R430, R431). -/

namespace Sys2Proof.Machine

/-! ### Memory access and tile decode -/

/-- `vram(b, a)` for `a` from 0x8000 to 0x9FFF: by bank and offset, not through the CPU's window (rule R391). -/
def vramAt (s : State) (b a : Nat) : Byte := s.ram.vram.read (b * 0x2000 + (a - 0x8000))

/-- `TilePixel(b, base, r, c)`: the colour index 0 to 3 (rule R392). -/
def tilePixel (s : State) (b base r c : Nat) : Nat :=
  2 * bitNat (bit (vramAt s b (base + 2 * r + 1)) (7 - c)) + bitNat (bit (vramAt s b (base + 2 * r)) (7 - c))

/-- `TileBase(t)`: unsigned from 0x8000, or signed about 0x9000 (rule R393). -/
def tileBase (s : State) (t : Byte) : Nat :=
  if bit s.lcd.lcdc 4 then 0x8000 + 16 * t.toNat else ((0x9000 : Int) + 16 * t.toInt).toNat

/-- A colour index with the attribute byte that goes with it. -/
structure Pixel where
  idx : Nat
  attr : Byte
deriving DecidableEq, Repr

/-- `BgPixel(mx, my, base)` (rules R394, R395, R397). -/
def bgPixel (s : State) (mx my base : Nat) : Pixel :=
  let ma := base + 32 * (my / 8) + mx / 8
  let t := vramAt s 0 ma
  let attr : Byte := match s.cfg.gen with
    | .one => 0#8
    | .two => vramAt s 1 ma
  let r := if bit attr 6 then 7 - my % 8 else my % 8
  let c := if bit attr 5 then 7 - mx % 8 else mx % 8
  { idx := tilePixel s (bitNat (bit attr 3)) (tileBase s t) r c, attr := attr }

/-! ### Background and window -/

/-- `bg_on`: on generation 1 `LCDC[0]` disables, on generation 2 it does not (rules R401, R432). -/
def bgOn (s : State) : Bool :=
  match s.cfg.gen with
  | .one => bit s.lcd.lcdc 0
  | .two => true

/-- `win_on` (rules R396, R432). -/
def winOn (s : State) : Bool :=
  bgOn s && bit s.lcd.lcdc 5 && decide (s.lcd.wy.toNat ≤ s.lcd.ly.toNat) && decide (s.lcd.wx.toNat ≤ 166)

/-- A tile map's base address (rule R394). -/
def mapBase (sel : Bool) : Nat := if sel then 0x9C00 else 0x9800

/-- The background or window pixel of column `x` (rules R396 to R401, R432). -/
def backPixel (s : State) (x : Nat) : Pixel :=
  if !bgOn s then { idx := 0, attr := 0#8 }
  else if winOn s && decide (s.lcd.wx.toNat ≤ x + 7) then
    bgPixel s (x + 7 - s.lcd.wx.toNat) s.lcd.wlc.toNat (mapBase (bit s.lcd.lcdc 6))
  else
    bgPixel s ((x + s.lcd.scx.toNat) % 256) ((s.lcd.ly.toNat + s.lcd.scy.toNat) % 256) (mapBase (bit s.lcd.lcdc 3))

/-! ### Sprites -/

/-- One of the four bytes of sprite-table entry `n` (rule R410). -/
def oamByte (s : State) (n k : Nat) : Byte := s.ram.oam.read (4 * n + k)

/-- `oy` of entry `n`. -/
def spriteY (s : State) (n : Nat) : Nat := (oamByte s n 0).toNat

/-- `ox` of entry `n`. -/
def spriteX (s : State) (n : Nat) : Nat := (oamByte s n 1).toNat

/-- `attr` of entry `n`. -/
def spriteAttr (s : State) (n : Nat) : Byte := oamByte s n 3

/-- `h`, the sprite height (rule R411). -/
def spriteHeight (s : State) : Nat := if bit s.lcd.lcdc 2 then 16 else 8

/-- The vertical extent of entry `n` includes the current line (rule R411). -/
def onLine (s : State) (n : Nat) : Bool :=
  decide (spriteY s n ≤ s.lcd.ly.toNat + 16) && decide (s.lcd.ly.toNat + 16 < spriteY s n + spriteHeight s)

/-- The first ten entries on the line, by index; none when sprites are disabled (rule R411). -/
def selected (s : State) : List Nat :=
  if bit s.lcd.lcdc 1 then ((List.range 40).filter (onLine s)).take 10 else []

/-- `x_order` (rule R412). -/
def xOrder (s : State) : Bool :=
  match s.cfg.gen with
  | .one => true
  | .two => s.lcd.opri

/-- Entry `m` is drawn before entry `n`: descending `ox` with ties by descending index, or descending index
only (rule R412). -/
def drawnBefore (s : State) (m n : Nat) : Bool :=
  if xOrder s then
    decide (spriteX s n < spriteX s m) || (decide (spriteX s m = spriteX s n) && decide (n < m))
  else decide (n < m)

/-- Puts an entry where it is drawn. -/
def insertSprite (s : State) (n : Nat) : List Nat → List Nat
  | [] => [n]
  | m :: r => if drawnBefore s n m then n :: m :: r else m :: insertSprite s n r

/-- The selected entries in drawing order (rule R412). -/
def drawOrder (s : State) : List Nat := (selected s).foldr (insertSprite s) []

/-- Entry `n` covers column `x`: `ox - 8 <= x < ox` (rule R413). -/
def covers (s : State) (n x : Nat) : Bool := decide (spriteX s n ≤ x + 8) && decide (x < spriteX s n)

/-- `SpritePixel(n, x)`: the colour index (rule R413). -/
def spritePixel (s : State) (n x : Nat) : Nat :=
  let attr := spriteAttr s n
  let h := spriteHeight s
  let r0 := s.lcd.ly.toNat + 16 - spriteY s n
  let r := if bit attr 6 then h - 1 - r0 else r0
  let c0 := x + 8 - spriteX s n
  let c := if bit attr 5 then 7 - c0 else c0
  let tile := (oamByte s n 2).toNat
  let t := if h = 16 then tile / 2 * 2 + r / 8 else tile
  let b := match s.cfg.gen with
    | .one => 0
    | .two => bitNat (bit attr 3)
  tilePixel s b (0x8000 + 16 * t) (r % 8) c

/-- One entry drawn over column `x` of the sprite layer: colour index 0 is transparent (rule R414). -/
def drawOver (s : State) (x : Nat) (below : Option Pixel) (n : Nat) : Option Pixel :=
  if covers s n x && decide (spritePixel s n x ≠ 0) then
    some { idx := spritePixel s n x, attr := spriteAttr s n }
  else below

/-- The sprite layer of column `x` when the entries of `order` are drawn one after another (rule R414). -/
def layerOf (s : State) (order : List Nat) (x : Nat) : Option Pixel := order.foldl (drawOver s x) none

/-! ### Colour and composition -/

/-- The 2-bit shade of colour index `c` in a monochrome palette: `reg[2c+1 : 2c]` (rule R39). -/
def shade (reg : Byte) (c : Nat) : BitVec 15 := BitVec.ofNat 15 (reg.toNat / 4 ^ c % 4)

/-- Entry `n` of a colour table: `pal[2n+1][6:0] :: pal[2n]` (rule R49). -/
def colour (pal : Memory 8) (n : Nat) : BitVec 15 :=
  ((pal.read (2 * n + 1)).extractLsb' 0 7 ++ pal.read (2 * n))

/-- Palette `attr[2:0]` of a colour table, colour `idx` (rules R421, R425). -/
def paletteColour (pal : Memory 8) (p : Pixel) : BitVec 15 := colour pal (4 * (p.attr.toNat % 8) + p.idx)

/-- The background or window colour (rules R420, R421). -/
def backColour (s : State) (p : Pixel) : BitVec 15 :=
  match s.cfg.gen with
  | .one => shade s.lcd.bgp p.idx
  | .two => paletteColour s.lcd.bgPal p

/-- The sprite colour (rules R424, R425). -/
def spriteColour (s : State) (p : Pixel) : BitVec 15 :=
  match s.cfg.gen with
  | .one => shade (if bit p.attr 4 then s.lcd.obp1 else s.lcd.obp0) p.idx
  | .two => paletteColour s.lcd.objPal p

/-- The background wins over a sprite pixel (rules R426, R427). -/
def backWins (s : State) (back sprite : Pixel) : Bool :=
  match s.cfg.gen with
  | .one => bit sprite.attr 7 && decide (back.idx ≠ 0)
  | .two => bit s.lcd.lcdc 0 && decide (back.idx ≠ 0) && (bit back.attr 7 || bit sprite.attr 7)

/-- Composition of one column (rules R426, R427). -/
def compose (s : State) (back : Pixel) (sprite : Option Pixel) : BitVec 15 :=
  match sprite with
  | none => backColour s back
  | some p => if backWins s back p then backColour s back else spriteColour s p

/-! ### The line and the frame -/

/-- The value of column `x` of the line (rule R432). -/
def linePixel (s : State) (order : List Nat) (x : Nat) : BitVec 15 := compose s (backPixel s x) (layerOf s order x)

/-- `FB[LY][x] <- …` for one column, the picture taken from `s0` (rules R390, R432). -/
def putPixel (s0 : State) (order : List Nat) (fb : Memory 15) (x : Nat) : Memory 15 :=
  fb.write (160 * s0.lcd.ly.toNat + x) (linePixel s0 order x)

/-- The frame buffer with row `LY` drawn, 160 columns left to right (rules R390, R430). -/
def drawnFb (s : State) : Memory 15 := (List.range 160).foldl (putPixel s (drawOrder s)) s.lcd.fb

/-- `WLC` after the line: one more if the window was drawn (rule R400). -/
def nextWlc (s : State) : Byte := if winOn s then s.lcd.wlc + 1#8 else s.lcd.wlc

/-- `RenderLine()` (rules R390, R432). It runs with `LY` in 0 to 143; the frame buffer has no other row, so
on another line nothing is drawn (log entry 9). -/
def renderLine (s : State) : State :=
  if s.lcd.ly.toNat < 144 then { s with lcd := { s.lcd with fb := drawnFb s, wlc := nextWlc s } } else s

/-- `conv` (rule R431): the configured `SHADE_RGB` or `RGB555_TO_888`, by generation. -/
def presentColour (cfg : Config) (v : BitVec 15) : Colour :=
  match cfg.gen with
  | .one => cfg.shades.at v
  | .two => cfg.colours.at v

/-- The 24-bit colour the Host receives at row `y`, column `x` of a frame (rule R431). -/
def frameColour (cfg : Config) (fb : Memory 15) (y x : Nat) : Colour := presentColour cfg (fb.read (160 * y + x))

/-- `PresentFrame()`: an output event carrying a copy of `FB`; no other effect (rule R431). -/
def presentFrame (s : State) : State := { s with host := { s.host with frames := s.lcd.fb :: s.host.frames } }

end Sys2Proof.Machine
end

