-- ==== Sys2Proof/Machine/Ppu.lean ====
section
/-! DEFINITION. The pixel processor's mode machine, line compare and status interrupts (`47_ppu_modes.md`). -/

namespace Sys2Proof.Machine

/-- The cycle budget of a mode (rule R351). -/
def budget : PpuMode → Nat
  | .search => 80
  | .drawing => 172
  | .hblank => 204
  | .vblank => 456

/-- Adds to `ppu_counter`. -/
def addCounter (k : Int) (s : State) : State := { s with lcd := { s.lcd with counter := s.lcd.counter + k } }

/-- The status-interrupt enable bit a mode answers to: `STAT[3]`, `STAT[4]`, `STAT[5]`, none for Drawing
(rules R351, R355). The stored enables are `STAT[6:3]`. -/
def modeEnable (q : Irq) : PpuMode → Bool
  | .hblank => bit q.statEnable 0
  | .vblank => bit q.statEnable 1
  | .search => bit q.statEnable 2
  | .drawing => false

/-- `EnterMode(m)` (rules R352, R355). -/
def enterMode (m : PpuMode) (s : State) : State :=
  let s1 : State := { s with lcd := { s.lcd with mode := m, counter := s.lcd.counter + budget m } }
  let s2 := raiseIf (decide (m = .vblank)) .vblank s1
  raiseIf (modeEnable s2.irq m) .status s2

/-- `LY <- v`. -/
def setLy (v : Byte) (s : State) : State := { s with lcd := { s.lcd with ly := v } }

/-- `Freeze()`, run on every `PPU.step` while the display is off (rule R353). -/
def freeze (s : State) : State :=
  coincidenceUpdate
    { s with lcd := { s.lcd with ly := 0#8, wlc := 0#8, mode := .search, counter := 80 } }

/-- Drawing to HBlank: render, enter, then the DMA chunk (rules R354, R357). -/
def leaveDrawing (s : State) : State := hblankDma (enterMode .hblank (renderLine s))

/-- The end of a visible line (rules R354, R358). -/
def leaveHblank (s : State) : State :=
  let s1 := coincidenceUpdate (setLy (s.lcd.ly + 1#8) s)
  if 144 ≤ s1.lcd.ly.toNat then enterMode .vblank s1 else enterMode .search s1

/-- The end of a VBlank line: the next line, or the end of the frame (rules R354, R360, R361). -/
def leaveVblankLine (s : State) : State :=
  if 153 < s.lcd.ly.toNat + 1 then
    let s1 := presentFrame s
    let s2 : State := { s1 with lcd := { s1.lcd with ly := 0#8, wlc := 0#8 } }
    enterMode .search (coincidenceUpdate s2)
  else addCounter 456 (coincidenceUpdate (setLy (s.lcd.ly + 1#8) s))

/-- `Advance()`, one transition (rule R354). -/
def ppuAdvance (s : State) : State :=
  match s.lcd.mode with
  | .search => enterMode .drawing s
  | .drawing => leaveDrawing s
  | .hblank => leaveHblank s
  | .vblank => leaveVblankLine s

/-- `while ppu_counter <= 0: Advance()` (rule R352), at most `fuel` times. -/
def ppuLoop : Nat → State → State
  | 0, s => s
  | fuel + 1, s => if s.lcd.counter ≤ 0 then ppuLoop fuel (ppuAdvance s) else s

/-- Enough transitions for the loop of rule R352 to end by itself: each adds at least 80 to the counter. -/
def ppuFuel (s : State) : Nat := s.lcd.counter.natAbs / 80 + 1

/-- `PPU.step(n)` (rule R352). -/
def ppuStep (n : Nat) (s : State) : State :=
  if bit s.lcd.lcdc 7 then
    let s1 := addCounter (-(n : Int)) s
    ppuLoop (ppuFuel s1) s1
  else freeze s

end Sys2Proof.Machine
end

