-- ==== Sys2Proof/Machine/Devices.lean ====
section
/-! DEFINITION. The Timer (rules R465, R466), the Host's action between iterations (rule R470), and what follows
`CPU.step` in one iteration of the step loop (rules R8, R9). -/

namespace Sys2Proof.Machine

/-- The period `TAC[1:0]` selects: `[1024, 16, 64, 256]` (rule R466). -/
def timerPeriod (tac : BitVec 3) : Nat :=
  match tac.toNat % 4 with
  | 0 => 1024
  | 1 => 16
  | 2 => 64
  | _ => 256

/-- One count of `TIMA`: up, or reloaded from `TMA` with the timer request (rule R466). -/
def timerTick (s : State) : State :=
  if s.tim.tima = 0xFF#8 then raiseIrq .timer { s with tim := { s.tim with tima := s.tim.tma } }
  else { s with tim := { s.tim with tima := s.tim.tima + 1#8 } }

/-- `k` counts of `TIMA`. -/
def timerTicks : Nat → State → State
  | 0, s => s
  | k + 1, s => timerTicks k (timerTick s)

/-- `Timer.step(n)` (rule R466). The loop `while tima_acc >= period` runs `acc / period` times and leaves
`acc % period`. -/
def timerStep (n : Nat) (s : State) : State :=
  let s1 : State := { s with tim := { s.tim with divCounter := s.tim.divCounter + BitVec.ofNat 16 n } }
  if bit s.tim.tac 2 then
    let p := timerPeriod s.tim.tac
    let acc := s.tim.timaAcc + n
    timerTicks (acc / p) { s1 with tim := { s1.tim with timaAcc := acc % p } }
  else s1

/-- The Host's update of `input_mask` (rule R470): a change raises the input request. -/
def hostInput (new : Byte) (s : State) : State :=
  if new = s.pad.inputMask then s
  else raiseIrq .input { s with pad := { s.pad with inputMask := new } }

/-- What the Host does at the end of an iteration: the next entry of the input sequence, if there is one and it
holds a mask (rule R470, log entry 6). -/
def hostTurn (s : State) : State :=
  match s.host.masks with
  | [] => s
  | none :: rest => { s with host := { s.host with masks := rest } }
  | some new :: rest => hostInput new { s with host := { s.host with masks := rest } }

/-- The count passed to `PPU.step`: `cycles >> ds` (rule R9). -/
def ppuCycles (r : Run) : Nat := if r.ds then r.cycles / 2 else r.cycles

/-- The agents after the CPU, each to completion before the next: `PPU.step(cycles >> ds)`,
`Timer.step(cycles)`, the Host (rules R8, R9, R470). -/
def devices (s : State) : State := hostTurn (timerStep s.run.cycles (ppuStep (ppuCycles s.run) s))

end Sys2Proof.Machine
end

