-- ==== Sys2Proof/Decode.lean ====
section
/-! DEFINITION. Decoding (`30_encoding.md`), total on any bytes and rejecting by name, and after it the
encoder. The decoder is the bit-sliced one of rules R141 to R149; the encoder is written from the grid of
rule R156, so that the two shapes the spec gives of one map check each other (rule R152). -/

namespace Sys2Proof

/-! ### The families: the instruction that selector values name -/

namespace Family

/-- `LD r8[y],r8[z]`, neither selector 6 (rule R171). -/
def ldRR (y : Reg8) (z : Reg8) : Instr :=
  match y, z with
  | .b, .b => .ld_b_b
  | .b, .c => .ld_b_c
  | .b, .d => .ld_b_d
  | .b, .e => .ld_b_e
  | .b, .h => .ld_b_h
  | .b, .l => .ld_b_l
  | .b, .a => .ld_b_a
  | .c, .b => .ld_c_b
  | .c, .c => .ld_c_c
  | .c, .d => .ld_c_d
  | .c, .e => .ld_c_e
  | .c, .h => .ld_c_h
  | .c, .l => .ld_c_l
  | .c, .a => .ld_c_a
  | .d, .b => .ld_d_b
  | .d, .c => .ld_d_c
  | .d, .d => .ld_d_d
  | .d, .e => .ld_d_e
  | .d, .h => .ld_d_h
  | .d, .l => .ld_d_l
  | .d, .a => .ld_d_a
  | .e, .b => .ld_e_b
  | .e, .c => .ld_e_c
  | .e, .d => .ld_e_d
  | .e, .e => .ld_e_e
  | .e, .h => .ld_e_h
  | .e, .l => .ld_e_l
  | .e, .a => .ld_e_a
  | .h, .b => .ld_h_b
  | .h, .c => .ld_h_c
  | .h, .d => .ld_h_d
  | .h, .e => .ld_h_e
  | .h, .h => .ld_h_h
  | .h, .l => .ld_h_l
  | .h, .a => .ld_h_a
  | .l, .b => .ld_l_b
  | .l, .c => .ld_l_c
  | .l, .d => .ld_l_d
  | .l, .e => .ld_l_e
  | .l, .h => .ld_l_h
  | .l, .l => .ld_l_l
  | .l, .a => .ld_l_a
  | .a, .b => .ld_a_b
  | .a, .c => .ld_a_c
  | .a, .d => .ld_a_d
  | .a, .e => .ld_a_e
  | .a, .h => .ld_a_h
  | .a, .l => .ld_a_l
  | .a, .a => .ld_a_a

/-- `LD r8[y],d8` (rule R172). -/
def ldRN (y : Reg8) (n : Byte) : Instr :=
  match y with
  | .b => .ld_b_d8 n
  | .c => .ld_c_d8 n
  | .d => .ld_d_d8 n
  | .e => .ld_e_d8 n
  | .h => .ld_h_d8 n
  | .l => .ld_l_d8 n
  | .a => .ld_a_d8 n

/-- `LD r8[y],(HL)` (rule R173). -/
def ldRM (y : Reg8) : Instr :=
  match y with
  | .b => .ld_b_atHL
  | .c => .ld_c_atHL
  | .d => .ld_d_atHL
  | .e => .ld_e_atHL
  | .h => .ld_h_atHL
  | .l => .ld_l_atHL
  | .a => .ld_a_atHL

/-- `LD (HL),r8[z]` (rule R174). -/
def ldMR (z : Reg8) : Instr :=
  match z with
  | .b => .ld_atHL_b
  | .c => .ld_atHL_c
  | .d => .ld_atHL_d
  | .e => .ld_atHL_e
  | .h => .ld_atHL_h
  | .l => .ld_atHL_l
  | .a => .ld_atHL_a

/-- `LD rp[p],d16` (rule R201). -/
def ldRp (p : Rp) (nn : Word) : Instr :=
  match p with
  | .bc => .ld_bc_d16 nn
  | .de => .ld_de_d16 nn
  | .hl => .ld_hl_d16 nn
  | .sp => .ld_sp_d16 nn

/-- `PUSH rp2[p]` (rule R205). -/
def push (p : Rp2) : Instr :=
  match p with
  | .bc => .push_bc
  | .de => .push_de
  | .hl => .push_hl
  | .af => .push_af

/-- `POP rp2[p]` (rule R206). -/
def pop (p : Rp2) : Instr :=
  match p with
  | .bc => .pop_bc
  | .de => .pop_de
  | .hl => .pop_hl
  | .af => .pop_af

/-- `alu[y] A,r8[z]`, `z` not 6 (rules R221 to R228). -/
def aluR (y : AluOp) (z : Reg8) : Instr :=
  match y, z with
  | .add, .b => .add_a_b
  | .add, .c => .add_a_c
  | .add, .d => .add_a_d
  | .add, .e => .add_a_e
  | .add, .h => .add_a_h
  | .add, .l => .add_a_l
  | .add, .a => .add_a_a
  | .adc, .b => .adc_a_b
  | .adc, .c => .adc_a_c
  | .adc, .d => .adc_a_d
  | .adc, .e => .adc_a_e
  | .adc, .h => .adc_a_h
  | .adc, .l => .adc_a_l
  | .adc, .a => .adc_a_a
  | .sub, .b => .sub_a_b
  | .sub, .c => .sub_a_c
  | .sub, .d => .sub_a_d
  | .sub, .e => .sub_a_e
  | .sub, .h => .sub_a_h
  | .sub, .l => .sub_a_l
  | .sub, .a => .sub_a_a
  | .sbc, .b => .sbc_a_b
  | .sbc, .c => .sbc_a_c
  | .sbc, .d => .sbc_a_d
  | .sbc, .e => .sbc_a_e
  | .sbc, .h => .sbc_a_h
  | .sbc, .l => .sbc_a_l
  | .sbc, .a => .sbc_a_a
  | .and, .b => .and_a_b
  | .and, .c => .and_a_c
  | .and, .d => .and_a_d
  | .and, .e => .and_a_e
  | .and, .h => .and_a_h
  | .and, .l => .and_a_l
  | .and, .a => .and_a_a
  | .xor, .b => .xor_a_b
  | .xor, .c => .xor_a_c
  | .xor, .d => .xor_a_d
  | .xor, .e => .xor_a_e
  | .xor, .h => .xor_a_h
  | .xor, .l => .xor_a_l
  | .xor, .a => .xor_a_a
  | .or, .b => .or_a_b
  | .or, .c => .or_a_c
  | .or, .d => .or_a_d
  | .or, .e => .or_a_e
  | .or, .h => .or_a_h
  | .or, .l => .or_a_l
  | .or, .a => .or_a_a
  | .cp, .b => .cp_a_b
  | .cp, .c => .cp_a_c
  | .cp, .d => .cp_a_d
  | .cp, .e => .cp_a_e
  | .cp, .h => .cp_a_h
  | .cp, .l => .cp_a_l
  | .cp, .a => .cp_a_a

/-- `alu[y] A,(HL)` (rules R221 to R228). -/
def aluM (y : AluOp) : Instr :=
  match y with
  | .add => .add_a_atHL
  | .adc => .adc_a_atHL
  | .sub => .sub_a_atHL
  | .sbc => .sbc_a_atHL
  | .and => .and_a_atHL
  | .xor => .xor_a_atHL
  | .or => .or_a_atHL
  | .cp => .cp_a_atHL

/-- `alu[y] A,d8` (rules R221 to R228). -/
def aluN (y : AluOp) (n : Byte) : Instr :=
  match y with
  | .add => .add_a_d8 n
  | .adc => .adc_a_d8 n
  | .sub => .sub_a_d8 n
  | .sbc => .sbc_a_d8 n
  | .and => .and_a_d8 n
  | .xor => .xor_a_d8 n
  | .or => .or_a_d8 n
  | .cp => .cp_a_d8 n

/-- `INC r8[y]`, `y` not 6 (rule R229). -/
def incR (y : Reg8) : Instr :=
  match y with
  | .b => .inc_b
  | .c => .inc_c
  | .d => .inc_d
  | .e => .inc_e
  | .h => .inc_h
  | .l => .inc_l
  | .a => .inc_a

/-- `DEC r8[y]`, `y` not 6 (rule R231). -/
def decR (y : Reg8) : Instr :=
  match y with
  | .b => .dec_b
  | .c => .dec_c
  | .d => .dec_d
  | .e => .dec_e
  | .h => .dec_h
  | .l => .dec_l
  | .a => .dec_a

/-- `ADD HL,rp[p]` (rule R261). -/
def addHl (p : Rp) : Instr :=
  match p with
  | .bc => .add_hl_bc
  | .de => .add_hl_de
  | .hl => .add_hl_hl
  | .sp => .add_hl_sp

/-- `INC rp[p]` (rule R262). -/
def incRp (p : Rp) : Instr :=
  match p with
  | .bc => .inc_bc
  | .de => .inc_de
  | .hl => .inc_hl
  | .sp => .inc_sp

/-- `DEC rp[p]` (rule R263). -/
def decRp (p : Rp) : Instr :=
  match p with
  | .bc => .dec_bc
  | .de => .dec_de
  | .hl => .dec_hl
  | .sp => .dec_sp

/-- `rot[y] r8[z]`, `z` not 6 (rules R275 to R282). -/
def rotR (y : RotOp) (z : Reg8) : Instr :=
  match y, z with
  | .rlc, .b => .rlc_b
  | .rlc, .c => .rlc_c
  | .rlc, .d => .rlc_d
  | .rlc, .e => .rlc_e
  | .rlc, .h => .rlc_h
  | .rlc, .l => .rlc_l
  | .rlc, .a => .rlc_a
  | .rrc, .b => .rrc_b
  | .rrc, .c => .rrc_c
  | .rrc, .d => .rrc_d
  | .rrc, .e => .rrc_e
  | .rrc, .h => .rrc_h
  | .rrc, .l => .rrc_l
  | .rrc, .a => .rrc_a
  | .rl, .b => .rl_b
  | .rl, .c => .rl_c
  | .rl, .d => .rl_d
  | .rl, .e => .rl_e
  | .rl, .h => .rl_h
  | .rl, .l => .rl_l
  | .rl, .a => .rl_a
  | .rr, .b => .rr_b
  | .rr, .c => .rr_c
  | .rr, .d => .rr_d
  | .rr, .e => .rr_e
  | .rr, .h => .rr_h
  | .rr, .l => .rr_l
  | .rr, .a => .rr_a
  | .sla, .b => .sla_b
  | .sla, .c => .sla_c
  | .sla, .d => .sla_d
  | .sla, .e => .sla_e
  | .sla, .h => .sla_h
  | .sla, .l => .sla_l
  | .sla, .a => .sla_a
  | .sra, .b => .sra_b
  | .sra, .c => .sra_c
  | .sra, .d => .sra_d
  | .sra, .e => .sra_e
  | .sra, .h => .sra_h
  | .sra, .l => .sra_l
  | .sra, .a => .sra_a
  | .swap, .b => .swap_b
  | .swap, .c => .swap_c
  | .swap, .d => .swap_d
  | .swap, .e => .swap_e
  | .swap, .h => .swap_h
  | .swap, .l => .swap_l
  | .swap, .a => .swap_a
  | .srl, .b => .srl_b
  | .srl, .c => .srl_c
  | .srl, .d => .srl_d
  | .srl, .e => .srl_e
  | .srl, .h => .srl_h
  | .srl, .l => .srl_l
  | .srl, .a => .srl_a

/-- `rot[y] (HL)` (rules R275 to R282). -/
def rotM (y : RotOp) : Instr :=
  match y with
  | .rlc => .rlc_atHL
  | .rrc => .rrc_atHL
  | .rl => .rl_atHL
  | .rr => .rr_atHL
  | .sla => .sla_atHL
  | .sra => .sra_atHL
  | .swap => .swap_atHL
  | .srl => .srl_atHL

/-- `BIT y,r8[z]`, `z` not 6 (rule R283). -/
def bitR (y : Oct) (z : Reg8) : Instr :=
  match y, z with
  | .o0, .b => .bit_0_b
  | .o0, .c => .bit_0_c
  | .o0, .d => .bit_0_d
  | .o0, .e => .bit_0_e
  | .o0, .h => .bit_0_h
  | .o0, .l => .bit_0_l
  | .o0, .a => .bit_0_a
  | .o1, .b => .bit_1_b
  | .o1, .c => .bit_1_c
  | .o1, .d => .bit_1_d
  | .o1, .e => .bit_1_e
  | .o1, .h => .bit_1_h
  | .o1, .l => .bit_1_l
  | .o1, .a => .bit_1_a
  | .o2, .b => .bit_2_b
  | .o2, .c => .bit_2_c
  | .o2, .d => .bit_2_d
  | .o2, .e => .bit_2_e
  | .o2, .h => .bit_2_h
  | .o2, .l => .bit_2_l
  | .o2, .a => .bit_2_a
  | .o3, .b => .bit_3_b
  | .o3, .c => .bit_3_c
  | .o3, .d => .bit_3_d
  | .o3, .e => .bit_3_e
  | .o3, .h => .bit_3_h
  | .o3, .l => .bit_3_l
  | .o3, .a => .bit_3_a
  | .o4, .b => .bit_4_b
  | .o4, .c => .bit_4_c
  | .o4, .d => .bit_4_d
  | .o4, .e => .bit_4_e
  | .o4, .h => .bit_4_h
  | .o4, .l => .bit_4_l
  | .o4, .a => .bit_4_a
  | .o5, .b => .bit_5_b
  | .o5, .c => .bit_5_c
  | .o5, .d => .bit_5_d
  | .o5, .e => .bit_5_e
  | .o5, .h => .bit_5_h
  | .o5, .l => .bit_5_l
  | .o5, .a => .bit_5_a
  | .o6, .b => .bit_6_b
  | .o6, .c => .bit_6_c
  | .o6, .d => .bit_6_d
  | .o6, .e => .bit_6_e
  | .o6, .h => .bit_6_h
  | .o6, .l => .bit_6_l
  | .o6, .a => .bit_6_a
  | .o7, .b => .bit_7_b
  | .o7, .c => .bit_7_c
  | .o7, .d => .bit_7_d
  | .o7, .e => .bit_7_e
  | .o7, .h => .bit_7_h
  | .o7, .l => .bit_7_l
  | .o7, .a => .bit_7_a

/-- `BIT y,(HL)` (rule R283). -/
def bitM (y : Oct) : Instr :=
  match y with
  | .o0 => .bit_0_atHL
  | .o1 => .bit_1_atHL
  | .o2 => .bit_2_atHL
  | .o3 => .bit_3_atHL
  | .o4 => .bit_4_atHL
  | .o5 => .bit_5_atHL
  | .o6 => .bit_6_atHL
  | .o7 => .bit_7_atHL

/-- `RES y,r8[z]`, `z` not 6 (rule R284). -/
def resR (y : Oct) (z : Reg8) : Instr :=
  match y, z with
  | .o0, .b => .res_0_b
  | .o0, .c => .res_0_c
  | .o0, .d => .res_0_d
  | .o0, .e => .res_0_e
  | .o0, .h => .res_0_h
  | .o0, .l => .res_0_l
  | .o0, .a => .res_0_a
  | .o1, .b => .res_1_b
  | .o1, .c => .res_1_c
  | .o1, .d => .res_1_d
  | .o1, .e => .res_1_e
  | .o1, .h => .res_1_h
  | .o1, .l => .res_1_l
  | .o1, .a => .res_1_a
  | .o2, .b => .res_2_b
  | .o2, .c => .res_2_c
  | .o2, .d => .res_2_d
  | .o2, .e => .res_2_e
  | .o2, .h => .res_2_h
  | .o2, .l => .res_2_l
  | .o2, .a => .res_2_a
  | .o3, .b => .res_3_b
  | .o3, .c => .res_3_c
  | .o3, .d => .res_3_d
  | .o3, .e => .res_3_e
  | .o3, .h => .res_3_h
  | .o3, .l => .res_3_l
  | .o3, .a => .res_3_a
  | .o4, .b => .res_4_b
  | .o4, .c => .res_4_c
  | .o4, .d => .res_4_d
  | .o4, .e => .res_4_e
  | .o4, .h => .res_4_h
  | .o4, .l => .res_4_l
  | .o4, .a => .res_4_a
  | .o5, .b => .res_5_b
  | .o5, .c => .res_5_c
  | .o5, .d => .res_5_d
  | .o5, .e => .res_5_e
  | .o5, .h => .res_5_h
  | .o5, .l => .res_5_l
  | .o5, .a => .res_5_a
  | .o6, .b => .res_6_b
  | .o6, .c => .res_6_c
  | .o6, .d => .res_6_d
  | .o6, .e => .res_6_e
  | .o6, .h => .res_6_h
  | .o6, .l => .res_6_l
  | .o6, .a => .res_6_a
  | .o7, .b => .res_7_b
  | .o7, .c => .res_7_c
  | .o7, .d => .res_7_d
  | .o7, .e => .res_7_e
  | .o7, .h => .res_7_h
  | .o7, .l => .res_7_l
  | .o7, .a => .res_7_a

/-- `RES y,(HL)` (rule R284). -/
def resM (y : Oct) : Instr :=
  match y with
  | .o0 => .res_0_atHL
  | .o1 => .res_1_atHL
  | .o2 => .res_2_atHL
  | .o3 => .res_3_atHL
  | .o4 => .res_4_atHL
  | .o5 => .res_5_atHL
  | .o6 => .res_6_atHL
  | .o7 => .res_7_atHL

/-- `SET y,r8[z]`, `z` not 6 (rule R285). -/
def setR (y : Oct) (z : Reg8) : Instr :=
  match y, z with
  | .o0, .b => .set_0_b
  | .o0, .c => .set_0_c
  | .o0, .d => .set_0_d
  | .o0, .e => .set_0_e
  | .o0, .h => .set_0_h
  | .o0, .l => .set_0_l
  | .o0, .a => .set_0_a
  | .o1, .b => .set_1_b
  | .o1, .c => .set_1_c
  | .o1, .d => .set_1_d
  | .o1, .e => .set_1_e
  | .o1, .h => .set_1_h
  | .o1, .l => .set_1_l
  | .o1, .a => .set_1_a
  | .o2, .b => .set_2_b
  | .o2, .c => .set_2_c
  | .o2, .d => .set_2_d
  | .o2, .e => .set_2_e
  | .o2, .h => .set_2_h
  | .o2, .l => .set_2_l
  | .o2, .a => .set_2_a
  | .o3, .b => .set_3_b
  | .o3, .c => .set_3_c
  | .o3, .d => .set_3_d
  | .o3, .e => .set_3_e
  | .o3, .h => .set_3_h
  | .o3, .l => .set_3_l
  | .o3, .a => .set_3_a
  | .o4, .b => .set_4_b
  | .o4, .c => .set_4_c
  | .o4, .d => .set_4_d
  | .o4, .e => .set_4_e
  | .o4, .h => .set_4_h
  | .o4, .l => .set_4_l
  | .o4, .a => .set_4_a
  | .o5, .b => .set_5_b
  | .o5, .c => .set_5_c
  | .o5, .d => .set_5_d
  | .o5, .e => .set_5_e
  | .o5, .h => .set_5_h
  | .o5, .l => .set_5_l
  | .o5, .a => .set_5_a
  | .o6, .b => .set_6_b
  | .o6, .c => .set_6_c
  | .o6, .d => .set_6_d
  | .o6, .e => .set_6_e
  | .o6, .h => .set_6_h
  | .o6, .l => .set_6_l
  | .o6, .a => .set_6_a
  | .o7, .b => .set_7_b
  | .o7, .c => .set_7_c
  | .o7, .d => .set_7_d
  | .o7, .e => .set_7_e
  | .o7, .h => .set_7_h
  | .o7, .l => .set_7_l
  | .o7, .a => .set_7_a

/-- `SET y,(HL)` (rule R285). -/
def setM (y : Oct) : Instr :=
  match y with
  | .o0 => .set_0_atHL
  | .o1 => .set_1_atHL
  | .o2 => .set_2_atHL
  | .o3 => .set_3_atHL
  | .o4 => .set_4_atHL
  | .o5 => .set_5_atHL
  | .o6 => .set_6_atHL
  | .o7 => .set_7_atHL

/-- `JP cc,a16` (rule R302). -/
def jpCc (k : Cond) (nn : Word) : Instr :=
  match k with
  | .nz => .jp_nz_a16 nn
  | .z => .jp_z_a16 nn
  | .nc => .jp_nc_a16 nn
  | .c => .jp_c_a16 nn

/-- `JR cc,e8` (rule R305). -/
def jrCc (k : Cond) (e : Byte) : Instr :=
  match k with
  | .nz => .jr_nz_e8 e
  | .z => .jr_z_e8 e
  | .nc => .jr_nc_e8 e
  | .c => .jr_c_e8 e

/-- `CALL cc,a16` (rule R307). -/
def callCc (k : Cond) (nn : Word) : Instr :=
  match k with
  | .nz => .call_nz_a16 nn
  | .z => .call_z_a16 nn
  | .nc => .call_nc_a16 nn
  | .c => .call_c_a16 nn

/-- `RET cc` (rule R309). -/
def retCc (k : Cond) : Instr :=
  match k with
  | .nz => .ret_nz
  | .z => .ret_z
  | .nc => .ret_nc
  | .c => .ret_c

/-- `RST y*8` (rule R311). -/
def rst (y : Oct) : Instr :=
  match y with
  | .o0 => .rst_00h
  | .o1 => .rst_08h
  | .o2 => .rst_10h
  | .o3 => .rst_18h
  | .o4 => .rst_20h
  | .o5 => .rst_28h
  | .o6 => .rst_30h
  | .o7 => .rst_38h

/-- An unassigned opcode (rules R150, R336). -/
def illegal (k : Unassigned) : Instr :=
  match k with
  | .d3 => .illegal_d3
  | .db => .illegal_db
  | .dd => .illegal_dd
  | .e3 => .illegal_e3
  | .e4 => .illegal_e4
  | .eb => .illegal_eb
  | .ec => .illegal_ec
  | .ed => .illegal_ed
  | .f4 => .illegal_f4
  | .fc => .illegal_fc
  | .fd => .illegal_fd

end Family

/-! ### The selector tables, as read from a field -/

/-- `r8[i]` (rule R144): entry 6 is `(HL)`, answered as `none`. -/
def r8Of : Nat → Option Reg8
  | 0 => some .b
  | 1 => some .c
  | 2 => some .d
  | 3 => some .e
  | 4 => some .h
  | 5 => some .l
  | 6 => none
  | _ => some .a

/-- `rp[p]` (rule R145). -/
def rpOf : Nat → Rp
  | 0 => .bc
  | 1 => .de
  | 2 => .hl
  | _ => .sp

/-- `rp2[p]` (rule R146). -/
def rp2Of : Nat → Rp2
  | 0 => .bc
  | 1 => .de
  | 2 => .hl
  | _ => .af

/-- `cc[i]` (rule R147). -/
def ccOf : Nat → Cond
  | 0 => .nz
  | 1 => .z
  | 2 => .nc
  | _ => .c

/-- `alu[y]` (rule R147). -/
def aluOf : Nat → AluOp
  | 0 => .add
  | 1 => .adc
  | 2 => .sub
  | 3 => .sbc
  | 4 => .and
  | 5 => .xor
  | 6 => .or
  | _ => .cp

/-- `rot[y]` (rule R147). -/
def rotOf : Nat → RotOp
  | 0 => .rlc
  | 1 => .rrc
  | 2 => .rl
  | 3 => .rr
  | 4 => .sla
  | 5 => .sra
  | 6 => .swap
  | _ => .srl

/-- A 3-bit number as a selector value. -/
def octOf : Nat → Oct
  | 0 => .o0
  | 1 => .o1
  | 2 => .o2
  | 3 => .o3
  | 4 => .o4
  | 5 => .o5
  | 6 => .o6
  | _ => .o7

/-- The number a selector value stands for. -/
def octNat : Oct → Nat
  | .o0 => 0
  | .o1 => 1
  | .o2 => 2
  | .o3 => 3
  | .o4 => 4
  | .o5 => 5
  | .o6 => 6
  | .o7 => 7

/-! ### The decoder -/

/-- An instruction with an `r8` operand: the register form, or the `(HL)` form for selector 6. -/
def withR8 (sel : Nat) (reg : Reg8 → Instr) (mem : Instr) : Instr :=
  match r8Of sel with
  | some r => reg r
  | none => mem

/-- The extended page (rule R149): `ext` is the byte after 0xCB. -/
def decodeExt (ext : Byte) : Instr :=
  match xOf ext with
  | 0 => withR8 (zOf ext) (Family.rotR (rotOf (yOf ext))) (Family.rotM (rotOf (yOf ext)))
  | 1 => withR8 (zOf ext) (Family.bitR (octOf (yOf ext))) (Family.bitM (octOf (yOf ext)))
  | 2 => withR8 (zOf ext) (Family.resR (octOf (yOf ext))) (Family.resM (octOf (yOf ext)))
  | _ => withR8 (zOf ext) (Family.setR (octOf (yOf ext))) (Family.setM (octOf (yOf ext)))

/-- `x = 0` of the base page (rule R148). -/
def decodeX0 (op n1 n2 : Byte) : Instr :=
  match zOf op with
  | 0 =>
    match yOf op with
    | 0 => .nop
    | 1 => .ld_atA16_sp (join n2 n1)
    | 2 => .stop n1
    | 3 => .jr_e8 n1
    | y => Family.jrCc (ccOf (y - 4)) n1
  | 1 =>
    match qOf op with
    | 0 => Family.ldRp (rpOf (pOf op)) (join n2 n1)
    | _ => Family.addHl (rpOf (pOf op))
  | 2 =>
    match yOf op with
    | 0 => .ld_atBC_a
    | 1 => .ld_a_atBC
    | 2 => .ld_atDE_a
    | 3 => .ld_a_atDE
    | 4 => .ld_atHLi_a
    | 5 => .ld_a_atHLi
    | 6 => .ld_atHLd_a
    | _ => .ld_a_atHLd
  | 3 =>
    match qOf op with
    | 0 => Family.incRp (rpOf (pOf op))
    | _ => Family.decRp (rpOf (pOf op))
  | 4 => withR8 (yOf op) Family.incR .inc_atHL
  | 5 => withR8 (yOf op) Family.decR .dec_atHL
  | 6 => withR8 (yOf op) (fun r => Family.ldRN r n1) (.ld_atHL_d8 n1)
  | _ =>
    match yOf op with
    | 0 => .rlca
    | 1 => .rrca
    | 2 => .rla
    | 3 => .rra
    | 4 => .daa
    | 5 => .cpl
    | 6 => .scf
    | _ => .ccf

/-- `x = 1` of the base page (rule R148): the loads, and `HALT` where both selectors are 6. -/
def decodeX1 (op : Byte) : Instr :=
  match r8Of (yOf op), r8Of (zOf op) with
  | some y, some z => Family.ldRR y z
  | some y, none => Family.ldRM y
  | none, some z => Family.ldMR z
  | none, none => .halt

/-- `x = 3` of the base page (rule R148). -/
def decodeX3 (op n1 n2 : Byte) : Instr :=
  match zOf op with
  | 0 =>
    match yOf op with
    | 4 => .ldh_atA8_a n1
    | 5 => .add_sp_e8 n1
    | 6 => .ldh_a_atA8 n1
    | 7 => .ld_hl_spe8 n1
    | y => Family.retCc (ccOf y)
  | 1 =>
    match qOf op, pOf op with
    | 0, p => Family.pop (rp2Of p)
    | _, 0 => .ret
    | _, 1 => .reti
    | _, 2 => .jp_hl
    | _, _ => .ld_sp_hl
  | 2 =>
    match yOf op with
    | 4 => .ld_atC_a
    | 5 => .ld_atA16_a (join n2 n1)
    | 6 => .ld_a_atC
    | 7 => .ld_a_atA16 (join n2 n1)
    | y => Family.jpCc (ccOf y) (join n2 n1)
  | 3 =>
    match yOf op with
    | 0 => .jp_a16 (join n2 n1)
    | 1 => decodeExt n1
    | 2 => .illegal_d3
    | 3 => .illegal_db
    | 4 => .illegal_e3
    | 5 => .illegal_eb
    | 6 => .di
    | _ => .ei
  | 4 =>
    match yOf op with
    | 4 => .illegal_e4
    | 5 => .illegal_ec
    | 6 => .illegal_f4
    | 7 => .illegal_fc
    | y => Family.callCc (ccOf y) (join n2 n1)
  | 5 =>
    match qOf op, pOf op with
    | 0, p => Family.push (rp2Of p)
    | _, 0 => .call_a16 (join n2 n1)
    | _, 1 => .illegal_dd
    | _, 2 => .illegal_ed
    | _, _ => .illegal_fd
  | 6 => Family.aluN (aluOf (yOf op)) n1
  | _ => Family.rst (octOf (yOf op))

/-- The instruction whose opcode byte is `op` and whose next two bytes are `n1` and `n2`; the bytes beyond
its length are not looked at (rules R143, R148, R149). 0xCB and the byte after it are one instruction
(rule R152). -/
def decodeBytes (op n1 n2 : Byte) : Instr :=
  match xOf op with
  | 0 => decodeX0 op n1 n2
  | 1 => decodeX1 op
  | 2 => withR8 (zOf op) (Family.aluR (aluOf (yOf op))) (Family.aluM (aluOf (yOf op)))
  | _ => decodeX3 op n1 n2

/-- The opcodes of format I2 and the prefix byte, by the tables of rule R148. -/
def hasTwoBytes (op : Byte) : Bool :=
  match xOf op with
  | 0 => decide (zOf op = 6) || (decide (zOf op = 0) && decide (2 ≤ yOf op))
  | 3 => decide (zOf op = 6) || (decide (zOf op = 0) && decide (4 ≤ yOf op)) || decide (op = 0xCB#8)
  | _ => false

/-- The opcodes of format I3, by the tables of rule R148. -/
def hasThreeBytes (op : Byte) : Bool :=
  match xOf op with
  | 0 => decide (op = 0x08#8) || (decide (zOf op = 1) && decide (qOf op = 0))
  | 3 =>
    (decide (zOf op = 2) && (decide (yOf op < 4) || decide (yOf op = 5) || decide (yOf op = 7)))
      || decide (op = 0xC3#8) || (decide (zOf op = 4) && decide (yOf op < 4)) || decide (op = 0xCD#8)
  | _ => false

/-- "Length is a function of the opcode byte alone" (rule R143). -/
def opcodeLength (op : Byte) : Nat :=
  if hasThreeBytes op then 3 else if hasTwoBytes op then 2 else 1

/-- Why bytes are not an instruction: none are left, or fewer than the opcode's length. No byte value is
rejected: the eleven unassigned opcodes are instructions with a meaning of their own (rule R336). -/
inductive DecodeError where
  | noBytes
  | truncated (op : Byte)
deriving DecidableEq, Repr

/-- Reads one instruction from the front of a list of bytes and answers the rest. -/
def decode : List Byte → Except DecodeError (Instr × List Byte)
  | [] => .error .noBytes
  | op :: rest =>
    match opcodeLength op, rest with
    | 1, _ => .ok (decodeBytes op 0#8 0#8, rest)
    | 2, n1 :: r => .ok (decodeBytes op n1 0#8, r)
    | 3, n1 :: n2 :: r => .ok (decodeBytes op n1 n2, r)
    | _, _ => .error (.truncated op)

/-- The first three bytes of a table word in the order they stand in memory. The table writes a row of the
extended page as one number with the prefix in the HIGH byte (`30_encoding.md`, the words before section
1), so a 16-bit word whose high byte is 0xCB is stored high byte first; every other word is stored low
byte first, as later bytes count on from the first (log entry 8). Bits above `nbits` are 0. -/
def tableBytes (nbits w : Nat) : List Byte :=
  let v := w % 2 ^ nbits
  if nbits = 16 ∧ v / 256 = 0xCB then [0xCB#8, BitVec.ofNat 8 v, 0#8]
  else [BitVec.ofNat 8 v, BitVec.ofNat 8 (v / 256), BitVec.ofNat 8 (v / 65536)]

/-- The instruction the decoder reads from a word of `spec/opcode_table.json`. -/
def decodeTableWord (nbits w : Nat) : Option Instr :=
  match decode (tableBytes nbits w) with
  | .ok (i, _) => some i
  | .error _ => none

/-! ### The encoder -/

/-- The bytes of an instruction, opcode first: the grid of rule R156 with the immediates of rule R142, and
the extended page of rule R149. `cb_page` alone is the prefix byte. -/
def encode (i : Instr) : List Byte :=
  match i with
  | .nop => [0x00#8]
  | .ld_bc_d16 nn => [0x01#8, loByte nn, hiByte nn]
  | .ld_atBC_a => [0x02#8]
  | .inc_bc => [0x03#8]
  | .inc_b => [0x04#8]
  | .dec_b => [0x05#8]
  | .ld_b_d8 n => [0x06#8, n]
  | .rlca => [0x07#8]
  | .ld_atA16_sp nn => [0x08#8, loByte nn, hiByte nn]
  | .add_hl_bc => [0x09#8]
  | .ld_a_atBC => [0x0A#8]
  | .dec_bc => [0x0B#8]
  | .inc_c => [0x0C#8]
  | .dec_c => [0x0D#8]
  | .ld_c_d8 n => [0x0E#8, n]
  | .rrca => [0x0F#8]
  | .stop ignored => [0x10#8, ignored]
  | .ld_de_d16 nn => [0x11#8, loByte nn, hiByte nn]
  | .ld_atDE_a => [0x12#8]
  | .inc_de => [0x13#8]
  | .inc_d => [0x14#8]
  | .dec_d => [0x15#8]
  | .ld_d_d8 n => [0x16#8, n]
  | .rla => [0x17#8]
  | .jr_e8 e => [0x18#8, e]
  | .add_hl_de => [0x19#8]
  | .ld_a_atDE => [0x1A#8]
  | .dec_de => [0x1B#8]
  | .inc_e => [0x1C#8]
  | .dec_e => [0x1D#8]
  | .ld_e_d8 n => [0x1E#8, n]
  | .rra => [0x1F#8]
  | .jr_nz_e8 e => [0x20#8, e]
  | .ld_hl_d16 nn => [0x21#8, loByte nn, hiByte nn]
  | .ld_atHLi_a => [0x22#8]
  | .inc_hl => [0x23#8]
  | .inc_h => [0x24#8]
  | .dec_h => [0x25#8]
  | .ld_h_d8 n => [0x26#8, n]
  | .daa => [0x27#8]
  | .jr_z_e8 e => [0x28#8, e]
  | .add_hl_hl => [0x29#8]
  | .ld_a_atHLi => [0x2A#8]
  | .dec_hl => [0x2B#8]
  | .inc_l => [0x2C#8]
  | .dec_l => [0x2D#8]
  | .ld_l_d8 n => [0x2E#8, n]
  | .cpl => [0x2F#8]
  | .jr_nc_e8 e => [0x30#8, e]
  | .ld_sp_d16 nn => [0x31#8, loByte nn, hiByte nn]
  | .ld_atHLd_a => [0x32#8]
  | .inc_sp => [0x33#8]
  | .inc_atHL => [0x34#8]
  | .dec_atHL => [0x35#8]
  | .ld_atHL_d8 n => [0x36#8, n]
  | .scf => [0x37#8]
  | .jr_c_e8 e => [0x38#8, e]
  | .add_hl_sp => [0x39#8]
  | .ld_a_atHLd => [0x3A#8]
  | .dec_sp => [0x3B#8]
  | .inc_a => [0x3C#8]
  | .dec_a => [0x3D#8]
  | .ld_a_d8 n => [0x3E#8, n]
  | .ccf => [0x3F#8]
  | .ld_b_b => [0x40#8]
  | .ld_b_c => [0x41#8]
  | .ld_b_d => [0x42#8]
  | .ld_b_e => [0x43#8]
  | .ld_b_h => [0x44#8]
  | .ld_b_l => [0x45#8]
  | .ld_b_atHL => [0x46#8]
  | .ld_b_a => [0x47#8]
  | .ld_c_b => [0x48#8]
  | .ld_c_c => [0x49#8]
  | .ld_c_d => [0x4A#8]
  | .ld_c_e => [0x4B#8]
  | .ld_c_h => [0x4C#8]
  | .ld_c_l => [0x4D#8]
  | .ld_c_atHL => [0x4E#8]
  | .ld_c_a => [0x4F#8]
  | .ld_d_b => [0x50#8]
  | .ld_d_c => [0x51#8]
  | .ld_d_d => [0x52#8]
  | .ld_d_e => [0x53#8]
  | .ld_d_h => [0x54#8]
  | .ld_d_l => [0x55#8]
  | .ld_d_atHL => [0x56#8]
  | .ld_d_a => [0x57#8]
  | .ld_e_b => [0x58#8]
  | .ld_e_c => [0x59#8]
  | .ld_e_d => [0x5A#8]
  | .ld_e_e => [0x5B#8]
  | .ld_e_h => [0x5C#8]
  | .ld_e_l => [0x5D#8]
  | .ld_e_atHL => [0x5E#8]
  | .ld_e_a => [0x5F#8]
  | .ld_h_b => [0x60#8]
  | .ld_h_c => [0x61#8]
  | .ld_h_d => [0x62#8]
  | .ld_h_e => [0x63#8]
  | .ld_h_h => [0x64#8]
  | .ld_h_l => [0x65#8]
  | .ld_h_atHL => [0x66#8]
  | .ld_h_a => [0x67#8]
  | .ld_l_b => [0x68#8]
  | .ld_l_c => [0x69#8]
  | .ld_l_d => [0x6A#8]
  | .ld_l_e => [0x6B#8]
  | .ld_l_h => [0x6C#8]
  | .ld_l_l => [0x6D#8]
  | .ld_l_atHL => [0x6E#8]
  | .ld_l_a => [0x6F#8]
  | .ld_atHL_b => [0x70#8]
  | .ld_atHL_c => [0x71#8]
  | .ld_atHL_d => [0x72#8]
  | .ld_atHL_e => [0x73#8]
  | .ld_atHL_h => [0x74#8]
  | .ld_atHL_l => [0x75#8]
  | .halt => [0x76#8]
  | .ld_atHL_a => [0x77#8]
  | .ld_a_b => [0x78#8]
  | .ld_a_c => [0x79#8]
  | .ld_a_d => [0x7A#8]
  | .ld_a_e => [0x7B#8]
  | .ld_a_h => [0x7C#8]
  | .ld_a_l => [0x7D#8]
  | .ld_a_atHL => [0x7E#8]
  | .ld_a_a => [0x7F#8]
  | .add_a_b => [0x80#8]
  | .add_a_c => [0x81#8]
  | .add_a_d => [0x82#8]
  | .add_a_e => [0x83#8]
  | .add_a_h => [0x84#8]
  | .add_a_l => [0x85#8]
  | .add_a_atHL => [0x86#8]
  | .add_a_a => [0x87#8]
  | .adc_a_b => [0x88#8]
  | .adc_a_c => [0x89#8]
  | .adc_a_d => [0x8A#8]
  | .adc_a_e => [0x8B#8]
  | .adc_a_h => [0x8C#8]
  | .adc_a_l => [0x8D#8]
  | .adc_a_atHL => [0x8E#8]
  | .adc_a_a => [0x8F#8]
  | .sub_a_b => [0x90#8]
  | .sub_a_c => [0x91#8]
  | .sub_a_d => [0x92#8]
  | .sub_a_e => [0x93#8]
  | .sub_a_h => [0x94#8]
  | .sub_a_l => [0x95#8]
  | .sub_a_atHL => [0x96#8]
  | .sub_a_a => [0x97#8]
  | .sbc_a_b => [0x98#8]
  | .sbc_a_c => [0x99#8]
  | .sbc_a_d => [0x9A#8]
  | .sbc_a_e => [0x9B#8]
  | .sbc_a_h => [0x9C#8]
  | .sbc_a_l => [0x9D#8]
  | .sbc_a_atHL => [0x9E#8]
  | .sbc_a_a => [0x9F#8]
  | .and_a_b => [0xA0#8]
  | .and_a_c => [0xA1#8]
  | .and_a_d => [0xA2#8]
  | .and_a_e => [0xA3#8]
  | .and_a_h => [0xA4#8]
  | .and_a_l => [0xA5#8]
  | .and_a_atHL => [0xA6#8]
  | .and_a_a => [0xA7#8]
  | .xor_a_b => [0xA8#8]
  | .xor_a_c => [0xA9#8]
  | .xor_a_d => [0xAA#8]
  | .xor_a_e => [0xAB#8]
  | .xor_a_h => [0xAC#8]
  | .xor_a_l => [0xAD#8]
  | .xor_a_atHL => [0xAE#8]
  | .xor_a_a => [0xAF#8]
  | .or_a_b => [0xB0#8]
  | .or_a_c => [0xB1#8]
  | .or_a_d => [0xB2#8]
  | .or_a_e => [0xB3#8]
  | .or_a_h => [0xB4#8]
  | .or_a_l => [0xB5#8]
  | .or_a_atHL => [0xB6#8]
  | .or_a_a => [0xB7#8]
  | .cp_a_b => [0xB8#8]
  | .cp_a_c => [0xB9#8]
  | .cp_a_d => [0xBA#8]
  | .cp_a_e => [0xBB#8]
  | .cp_a_h => [0xBC#8]
  | .cp_a_l => [0xBD#8]
  | .cp_a_atHL => [0xBE#8]
  | .cp_a_a => [0xBF#8]
  | .ret_nz => [0xC0#8]
  | .pop_bc => [0xC1#8]
  | .jp_nz_a16 nn => [0xC2#8, loByte nn, hiByte nn]
  | .jp_a16 nn => [0xC3#8, loByte nn, hiByte nn]
  | .call_nz_a16 nn => [0xC4#8, loByte nn, hiByte nn]
  | .push_bc => [0xC5#8]
  | .add_a_d8 n => [0xC6#8, n]
  | .rst_00h => [0xC7#8]
  | .ret_z => [0xC8#8]
  | .ret => [0xC9#8]
  | .jp_z_a16 nn => [0xCA#8, loByte nn, hiByte nn]
  | .cb_page => [0xCB#8]
  | .call_z_a16 nn => [0xCC#8, loByte nn, hiByte nn]
  | .call_a16 nn => [0xCD#8, loByte nn, hiByte nn]
  | .adc_a_d8 n => [0xCE#8, n]
  | .rst_08h => [0xCF#8]
  | .ret_nc => [0xD0#8]
  | .pop_de => [0xD1#8]
  | .jp_nc_a16 nn => [0xD2#8, loByte nn, hiByte nn]
  | .illegal_d3 => [0xD3#8]
  | .call_nc_a16 nn => [0xD4#8, loByte nn, hiByte nn]
  | .push_de => [0xD5#8]
  | .sub_a_d8 n => [0xD6#8, n]
  | .rst_10h => [0xD7#8]
  | .ret_c => [0xD8#8]
  | .reti => [0xD9#8]
  | .jp_c_a16 nn => [0xDA#8, loByte nn, hiByte nn]
  | .illegal_db => [0xDB#8]
  | .call_c_a16 nn => [0xDC#8, loByte nn, hiByte nn]
  | .illegal_dd => [0xDD#8]
  | .sbc_a_d8 n => [0xDE#8, n]
  | .rst_18h => [0xDF#8]
  | .ldh_atA8_a n => [0xE0#8, n]
  | .pop_hl => [0xE1#8]
  | .ld_atC_a => [0xE2#8]
  | .illegal_e3 => [0xE3#8]
  | .illegal_e4 => [0xE4#8]
  | .push_hl => [0xE5#8]
  | .and_a_d8 n => [0xE6#8, n]
  | .rst_20h => [0xE7#8]
  | .add_sp_e8 e => [0xE8#8, e]
  | .jp_hl => [0xE9#8]
  | .ld_atA16_a nn => [0xEA#8, loByte nn, hiByte nn]
  | .illegal_eb => [0xEB#8]
  | .illegal_ec => [0xEC#8]
  | .illegal_ed => [0xED#8]
  | .xor_a_d8 n => [0xEE#8, n]
  | .rst_28h => [0xEF#8]
  | .ldh_a_atA8 n => [0xF0#8, n]
  | .pop_af => [0xF1#8]
  | .ld_a_atC => [0xF2#8]
  | .di => [0xF3#8]
  | .illegal_f4 => [0xF4#8]
  | .push_af => [0xF5#8]
  | .or_a_d8 n => [0xF6#8, n]
  | .rst_30h => [0xF7#8]
  | .ld_hl_spe8 e => [0xF8#8, e]
  | .ld_sp_hl => [0xF9#8]
  | .ld_a_atA16 nn => [0xFA#8, loByte nn, hiByte nn]
  | .ei => [0xFB#8]
  | .illegal_fc => [0xFC#8]
  | .illegal_fd => [0xFD#8]
  | .cp_a_d8 n => [0xFE#8, n]
  | .rst_38h => [0xFF#8]
  | .rlc_b => [0xCB#8, 0x00#8]
  | .rlc_c => [0xCB#8, 0x01#8]
  | .rlc_d => [0xCB#8, 0x02#8]
  | .rlc_e => [0xCB#8, 0x03#8]
  | .rlc_h => [0xCB#8, 0x04#8]
  | .rlc_l => [0xCB#8, 0x05#8]
  | .rlc_atHL => [0xCB#8, 0x06#8]
  | .rlc_a => [0xCB#8, 0x07#8]
  | .rrc_b => [0xCB#8, 0x08#8]
  | .rrc_c => [0xCB#8, 0x09#8]
  | .rrc_d => [0xCB#8, 0x0A#8]
  | .rrc_e => [0xCB#8, 0x0B#8]
  | .rrc_h => [0xCB#8, 0x0C#8]
  | .rrc_l => [0xCB#8, 0x0D#8]
  | .rrc_atHL => [0xCB#8, 0x0E#8]
  | .rrc_a => [0xCB#8, 0x0F#8]
  | .rl_b => [0xCB#8, 0x10#8]
  | .rl_c => [0xCB#8, 0x11#8]
  | .rl_d => [0xCB#8, 0x12#8]
  | .rl_e => [0xCB#8, 0x13#8]
  | .rl_h => [0xCB#8, 0x14#8]
  | .rl_l => [0xCB#8, 0x15#8]
  | .rl_atHL => [0xCB#8, 0x16#8]
  | .rl_a => [0xCB#8, 0x17#8]
  | .rr_b => [0xCB#8, 0x18#8]
  | .rr_c => [0xCB#8, 0x19#8]
  | .rr_d => [0xCB#8, 0x1A#8]
  | .rr_e => [0xCB#8, 0x1B#8]
  | .rr_h => [0xCB#8, 0x1C#8]
  | .rr_l => [0xCB#8, 0x1D#8]
  | .rr_atHL => [0xCB#8, 0x1E#8]
  | .rr_a => [0xCB#8, 0x1F#8]
  | .sla_b => [0xCB#8, 0x20#8]
  | .sla_c => [0xCB#8, 0x21#8]
  | .sla_d => [0xCB#8, 0x22#8]
  | .sla_e => [0xCB#8, 0x23#8]
  | .sla_h => [0xCB#8, 0x24#8]
  | .sla_l => [0xCB#8, 0x25#8]
  | .sla_atHL => [0xCB#8, 0x26#8]
  | .sla_a => [0xCB#8, 0x27#8]
  | .sra_b => [0xCB#8, 0x28#8]
  | .sra_c => [0xCB#8, 0x29#8]
  | .sra_d => [0xCB#8, 0x2A#8]
  | .sra_e => [0xCB#8, 0x2B#8]
  | .sra_h => [0xCB#8, 0x2C#8]
  | .sra_l => [0xCB#8, 0x2D#8]
  | .sra_atHL => [0xCB#8, 0x2E#8]
  | .sra_a => [0xCB#8, 0x2F#8]
  | .swap_b => [0xCB#8, 0x30#8]
  | .swap_c => [0xCB#8, 0x31#8]
  | .swap_d => [0xCB#8, 0x32#8]
  | .swap_e => [0xCB#8, 0x33#8]
  | .swap_h => [0xCB#8, 0x34#8]
  | .swap_l => [0xCB#8, 0x35#8]
  | .swap_atHL => [0xCB#8, 0x36#8]
  | .swap_a => [0xCB#8, 0x37#8]
  | .srl_b => [0xCB#8, 0x38#8]
  | .srl_c => [0xCB#8, 0x39#8]
  | .srl_d => [0xCB#8, 0x3A#8]
  | .srl_e => [0xCB#8, 0x3B#8]
  | .srl_h => [0xCB#8, 0x3C#8]
  | .srl_l => [0xCB#8, 0x3D#8]
  | .srl_atHL => [0xCB#8, 0x3E#8]
  | .srl_a => [0xCB#8, 0x3F#8]
  | .bit_0_b => [0xCB#8, 0x40#8]
  | .bit_0_c => [0xCB#8, 0x41#8]
  | .bit_0_d => [0xCB#8, 0x42#8]
  | .bit_0_e => [0xCB#8, 0x43#8]
  | .bit_0_h => [0xCB#8, 0x44#8]
  | .bit_0_l => [0xCB#8, 0x45#8]
  | .bit_0_atHL => [0xCB#8, 0x46#8]
  | .bit_0_a => [0xCB#8, 0x47#8]
  | .bit_1_b => [0xCB#8, 0x48#8]
  | .bit_1_c => [0xCB#8, 0x49#8]
  | .bit_1_d => [0xCB#8, 0x4A#8]
  | .bit_1_e => [0xCB#8, 0x4B#8]
  | .bit_1_h => [0xCB#8, 0x4C#8]
  | .bit_1_l => [0xCB#8, 0x4D#8]
  | .bit_1_atHL => [0xCB#8, 0x4E#8]
  | .bit_1_a => [0xCB#8, 0x4F#8]
  | .bit_2_b => [0xCB#8, 0x50#8]
  | .bit_2_c => [0xCB#8, 0x51#8]
  | .bit_2_d => [0xCB#8, 0x52#8]
  | .bit_2_e => [0xCB#8, 0x53#8]
  | .bit_2_h => [0xCB#8, 0x54#8]
  | .bit_2_l => [0xCB#8, 0x55#8]
  | .bit_2_atHL => [0xCB#8, 0x56#8]
  | .bit_2_a => [0xCB#8, 0x57#8]
  | .bit_3_b => [0xCB#8, 0x58#8]
  | .bit_3_c => [0xCB#8, 0x59#8]
  | .bit_3_d => [0xCB#8, 0x5A#8]
  | .bit_3_e => [0xCB#8, 0x5B#8]
  | .bit_3_h => [0xCB#8, 0x5C#8]
  | .bit_3_l => [0xCB#8, 0x5D#8]
  | .bit_3_atHL => [0xCB#8, 0x5E#8]
  | .bit_3_a => [0xCB#8, 0x5F#8]
  | .bit_4_b => [0xCB#8, 0x60#8]
  | .bit_4_c => [0xCB#8, 0x61#8]
  | .bit_4_d => [0xCB#8, 0x62#8]
  | .bit_4_e => [0xCB#8, 0x63#8]
  | .bit_4_h => [0xCB#8, 0x64#8]
  | .bit_4_l => [0xCB#8, 0x65#8]
  | .bit_4_atHL => [0xCB#8, 0x66#8]
  | .bit_4_a => [0xCB#8, 0x67#8]
  | .bit_5_b => [0xCB#8, 0x68#8]
  | .bit_5_c => [0xCB#8, 0x69#8]
  | .bit_5_d => [0xCB#8, 0x6A#8]
  | .bit_5_e => [0xCB#8, 0x6B#8]
  | .bit_5_h => [0xCB#8, 0x6C#8]
  | .bit_5_l => [0xCB#8, 0x6D#8]
  | .bit_5_atHL => [0xCB#8, 0x6E#8]
  | .bit_5_a => [0xCB#8, 0x6F#8]
  | .bit_6_b => [0xCB#8, 0x70#8]
  | .bit_6_c => [0xCB#8, 0x71#8]
  | .bit_6_d => [0xCB#8, 0x72#8]
  | .bit_6_e => [0xCB#8, 0x73#8]
  | .bit_6_h => [0xCB#8, 0x74#8]
  | .bit_6_l => [0xCB#8, 0x75#8]
  | .bit_6_atHL => [0xCB#8, 0x76#8]
  | .bit_6_a => [0xCB#8, 0x77#8]
  | .bit_7_b => [0xCB#8, 0x78#8]
  | .bit_7_c => [0xCB#8, 0x79#8]
  | .bit_7_d => [0xCB#8, 0x7A#8]
  | .bit_7_e => [0xCB#8, 0x7B#8]
  | .bit_7_h => [0xCB#8, 0x7C#8]
  | .bit_7_l => [0xCB#8, 0x7D#8]
  | .bit_7_atHL => [0xCB#8, 0x7E#8]
  | .bit_7_a => [0xCB#8, 0x7F#8]
  | .res_0_b => [0xCB#8, 0x80#8]
  | .res_0_c => [0xCB#8, 0x81#8]
  | .res_0_d => [0xCB#8, 0x82#8]
  | .res_0_e => [0xCB#8, 0x83#8]
  | .res_0_h => [0xCB#8, 0x84#8]
  | .res_0_l => [0xCB#8, 0x85#8]
  | .res_0_atHL => [0xCB#8, 0x86#8]
  | .res_0_a => [0xCB#8, 0x87#8]
  | .res_1_b => [0xCB#8, 0x88#8]
  | .res_1_c => [0xCB#8, 0x89#8]
  | .res_1_d => [0xCB#8, 0x8A#8]
  | .res_1_e => [0xCB#8, 0x8B#8]
  | .res_1_h => [0xCB#8, 0x8C#8]
  | .res_1_l => [0xCB#8, 0x8D#8]
  | .res_1_atHL => [0xCB#8, 0x8E#8]
  | .res_1_a => [0xCB#8, 0x8F#8]
  | .res_2_b => [0xCB#8, 0x90#8]
  | .res_2_c => [0xCB#8, 0x91#8]
  | .res_2_d => [0xCB#8, 0x92#8]
  | .res_2_e => [0xCB#8, 0x93#8]
  | .res_2_h => [0xCB#8, 0x94#8]
  | .res_2_l => [0xCB#8, 0x95#8]
  | .res_2_atHL => [0xCB#8, 0x96#8]
  | .res_2_a => [0xCB#8, 0x97#8]
  | .res_3_b => [0xCB#8, 0x98#8]
  | .res_3_c => [0xCB#8, 0x99#8]
  | .res_3_d => [0xCB#8, 0x9A#8]
  | .res_3_e => [0xCB#8, 0x9B#8]
  | .res_3_h => [0xCB#8, 0x9C#8]
  | .res_3_l => [0xCB#8, 0x9D#8]
  | .res_3_atHL => [0xCB#8, 0x9E#8]
  | .res_3_a => [0xCB#8, 0x9F#8]
  | .res_4_b => [0xCB#8, 0xA0#8]
  | .res_4_c => [0xCB#8, 0xA1#8]
  | .res_4_d => [0xCB#8, 0xA2#8]
  | .res_4_e => [0xCB#8, 0xA3#8]
  | .res_4_h => [0xCB#8, 0xA4#8]
  | .res_4_l => [0xCB#8, 0xA5#8]
  | .res_4_atHL => [0xCB#8, 0xA6#8]
  | .res_4_a => [0xCB#8, 0xA7#8]
  | .res_5_b => [0xCB#8, 0xA8#8]
  | .res_5_c => [0xCB#8, 0xA9#8]
  | .res_5_d => [0xCB#8, 0xAA#8]
  | .res_5_e => [0xCB#8, 0xAB#8]
  | .res_5_h => [0xCB#8, 0xAC#8]
  | .res_5_l => [0xCB#8, 0xAD#8]
  | .res_5_atHL => [0xCB#8, 0xAE#8]
  | .res_5_a => [0xCB#8, 0xAF#8]
  | .res_6_b => [0xCB#8, 0xB0#8]
  | .res_6_c => [0xCB#8, 0xB1#8]
  | .res_6_d => [0xCB#8, 0xB2#8]
  | .res_6_e => [0xCB#8, 0xB3#8]
  | .res_6_h => [0xCB#8, 0xB4#8]
  | .res_6_l => [0xCB#8, 0xB5#8]
  | .res_6_atHL => [0xCB#8, 0xB6#8]
  | .res_6_a => [0xCB#8, 0xB7#8]
  | .res_7_b => [0xCB#8, 0xB8#8]
  | .res_7_c => [0xCB#8, 0xB9#8]
  | .res_7_d => [0xCB#8, 0xBA#8]
  | .res_7_e => [0xCB#8, 0xBB#8]
  | .res_7_h => [0xCB#8, 0xBC#8]
  | .res_7_l => [0xCB#8, 0xBD#8]
  | .res_7_atHL => [0xCB#8, 0xBE#8]
  | .res_7_a => [0xCB#8, 0xBF#8]
  | .set_0_b => [0xCB#8, 0xC0#8]
  | .set_0_c => [0xCB#8, 0xC1#8]
  | .set_0_d => [0xCB#8, 0xC2#8]
  | .set_0_e => [0xCB#8, 0xC3#8]
  | .set_0_h => [0xCB#8, 0xC4#8]
  | .set_0_l => [0xCB#8, 0xC5#8]
  | .set_0_atHL => [0xCB#8, 0xC6#8]
  | .set_0_a => [0xCB#8, 0xC7#8]
  | .set_1_b => [0xCB#8, 0xC8#8]
  | .set_1_c => [0xCB#8, 0xC9#8]
  | .set_1_d => [0xCB#8, 0xCA#8]
  | .set_1_e => [0xCB#8, 0xCB#8]
  | .set_1_h => [0xCB#8, 0xCC#8]
  | .set_1_l => [0xCB#8, 0xCD#8]
  | .set_1_atHL => [0xCB#8, 0xCE#8]
  | .set_1_a => [0xCB#8, 0xCF#8]
  | .set_2_b => [0xCB#8, 0xD0#8]
  | .set_2_c => [0xCB#8, 0xD1#8]
  | .set_2_d => [0xCB#8, 0xD2#8]
  | .set_2_e => [0xCB#8, 0xD3#8]
  | .set_2_h => [0xCB#8, 0xD4#8]
  | .set_2_l => [0xCB#8, 0xD5#8]
  | .set_2_atHL => [0xCB#8, 0xD6#8]
  | .set_2_a => [0xCB#8, 0xD7#8]
  | .set_3_b => [0xCB#8, 0xD8#8]
  | .set_3_c => [0xCB#8, 0xD9#8]
  | .set_3_d => [0xCB#8, 0xDA#8]
  | .set_3_e => [0xCB#8, 0xDB#8]
  | .set_3_h => [0xCB#8, 0xDC#8]
  | .set_3_l => [0xCB#8, 0xDD#8]
  | .set_3_atHL => [0xCB#8, 0xDE#8]
  | .set_3_a => [0xCB#8, 0xDF#8]
  | .set_4_b => [0xCB#8, 0xE0#8]
  | .set_4_c => [0xCB#8, 0xE1#8]
  | .set_4_d => [0xCB#8, 0xE2#8]
  | .set_4_e => [0xCB#8, 0xE3#8]
  | .set_4_h => [0xCB#8, 0xE4#8]
  | .set_4_l => [0xCB#8, 0xE5#8]
  | .set_4_atHL => [0xCB#8, 0xE6#8]
  | .set_4_a => [0xCB#8, 0xE7#8]
  | .set_5_b => [0xCB#8, 0xE8#8]
  | .set_5_c => [0xCB#8, 0xE9#8]
  | .set_5_d => [0xCB#8, 0xEA#8]
  | .set_5_e => [0xCB#8, 0xEB#8]
  | .set_5_h => [0xCB#8, 0xEC#8]
  | .set_5_l => [0xCB#8, 0xED#8]
  | .set_5_atHL => [0xCB#8, 0xEE#8]
  | .set_5_a => [0xCB#8, 0xEF#8]
  | .set_6_b => [0xCB#8, 0xF0#8]
  | .set_6_c => [0xCB#8, 0xF1#8]
  | .set_6_d => [0xCB#8, 0xF2#8]
  | .set_6_e => [0xCB#8, 0xF3#8]
  | .set_6_h => [0xCB#8, 0xF4#8]
  | .set_6_l => [0xCB#8, 0xF5#8]
  | .set_6_atHL => [0xCB#8, 0xF6#8]
  | .set_6_a => [0xCB#8, 0xF7#8]
  | .set_7_b => [0xCB#8, 0xF8#8]
  | .set_7_c => [0xCB#8, 0xF9#8]
  | .set_7_d => [0xCB#8, 0xFA#8]
  | .set_7_e => [0xCB#8, 0xFB#8]
  | .set_7_h => [0xCB#8, 0xFC#8]
  | .set_7_l => [0xCB#8, 0xFD#8]
  | .set_7_atHL => [0xCB#8, 0xFE#8]
  | .set_7_a => [0xCB#8, 0xFF#8]

/-- The length in bytes of an instruction (rule R140). -/
def Instr.length (i : Instr) : Nat := (encode i).length

end Sys2Proof
end

