-- ==== Sys2Proof/Machine/Flags.lean ====
section
/-! DEFINITION. Every result and flag computation: 8-bit arithmetic and logic (`42_alu8.md`), 16-bit
arithmetic (`43_alu16.md`), rotates, shifts and bits (`44_rotate_shift_bit.md`). Operands are taken as
numbers, the sum or difference is exact, and carries are comparisons with it. -/

namespace Sys2Proof.Machine

/-- `flags(z, n, h, c)`: the byte `z::n::h::c::0b0000` (rule R11). -/
def flags (z n h c : Bool) : Byte :=
  BitVec.ofBool z ++ BitVec.ofBool n ++ BitVec.ofBool h ++ BitVec.ofBool c ++ 0#4

/-- A result byte and the flag byte that goes with it. -/
structure Res8 where
  val : Byte
  flg : Byte
deriving DecidableEq, Repr

/-- `A + v + c` with its four flags (rules R221, R222). -/
def addFlags (a v : Byte) (c : Bool) : Res8 :=
  let r := a.toNat + v.toNat + bitNat c
  { val := BitVec.ofNat 8 r
    flg := flags (decide (r % 256 = 0)) false (decide (a.toNat % 16 + v.toNat % 16 + bitNat c > 0xF))
      (decide (r > 0xFF)) }

/-- `A - v - c` with its four flags: C is the borrow, H the borrow into the low nibble (rules R223, R224). -/
def subFlags (a v : Byte) (c : Bool) : Res8 :=
  let r : Int := (a.toNat : Int) - v.toNat - bitNat c
  { val := BitVec.ofInt 8 r
    flg := flags (decide (r % 256 = 0)) true (decide (a.toNat % 16 < v.toNat % 16 + bitNat c))
      (decide (a.toNat < v.toNat + bitNat c)) }

/-- A logical result: Z from it, N = 0, C = 0 (rules R225 to R227). -/
def logicFlags (r : Byte) (h : Bool) : Res8 := { val := r, flg := flags (decide (r = 0#8)) false h false }

/-- The eight accumulator operations (rules R221 to R228): `a` is `A`, `v` the second operand, `c` is `fC`. -/
def alu (op : AluOp) (a v : Byte) (c : Bool) : Res8 :=
  match op with
  | .add => addFlags a v false
  | .adc => addFlags a v c
  | .sub => subFlags a v false
  | .sbc => subFlags a v c
  | .and => logicFlags (a &&& v) true
  | .xor => logicFlags (a ^^^ v) false
  | .or => logicFlags (a ||| v) false
  | .cp => { val := a, flg := (subFlags a v false).flg }

/-- `INC`: Z, N = 0, H; C kept (rules R229, R230). -/
def inc8 (v : Byte) (c : Bool) : Res8 :=
  { val := v + 1#8, flg := flags (decide (v + 1#8 = 0#8)) false (decide (v.toNat % 16 = 0xF)) c }

/-- `DEC`: Z, N = 1, H; C kept (rules R231, R232). -/
def dec8 (v : Byte) (c : Bool) : Res8 :=
  { val := v - 1#8, flg := flags (decide (v - 1#8 = 0#8)) true (decide (v.toNat % 16 = 0)) c }

/-- The adjustment `DAA` makes to the low digit: 6 or 0 (rule R233). -/
def daaLow (a : Byte) (n h : Bool) : Nat := if h || (!n && decide (a.toNat % 16 > 0x09)) then 0x06 else 0

/-- `DAA` makes the 0x60 step (rule R233): after an addition also when `A`, before any adjustment, is above 0x99. -/
def daaHigh (a : Byte) (n c : Bool) : Bool := c || (!n && decide (a.toNat > 0x99))

/-- `DAA` (rule R233). -/
def daa (a : Byte) (n h c : Bool) : Res8 :=
  let adj := daaLow a n h + (if daaHigh a n c then 0x60 else 0)
  let r : Byte := if n then BitVec.ofInt 8 ((a.toNat : Int) - adj) else BitVec.ofNat 8 (a.toNat + adj)
  { val := r, flg := flags (decide (r = 0#8)) n false (daaHigh a n c) }

/-- A 16-bit result with its Half-Carry and Carry. -/
structure Res16 where
  val : Word
  half : Bool
  carry : Bool
deriving DecidableEq, Repr

/-- `AddRel(base, e)` (rule R260): Half-Carry and Carry are bits 4 and 8 of the three-way exclusive-or. -/
def addRel (base : Word) (e : Byte) : Res16 :=
  let off := sext16 e
  let r := base + off
  let x := base ^^^ off ^^^ r
  { val := r, half := bit x 4, carry := bit x 8 }

/-- `ADD HL,rp` (rule R261): H from the low 12 bits, C from 16. -/
def add16 (hl v : Word) : Res16 :=
  { val := BitVec.ofNat 16 (hl.toNat + v.toNat)
    half := decide (hl.toNat % 0x1000 + v.toNat % 0x1000 > 0xFFF)
    carry := decide (hl.toNat + v.toNat > 0xFFFF) }

/-- The bit a rotate or shift moves out, `co`; 0 for `SWAP` (rules R274 to R282). -/
def rotOut (op : RotOp) (v : Byte) : Bool :=
  match op with
  | .rlc => bit v 7
  | .rrc => bit v 0
  | .rl => bit v 7
  | .rr => bit v 0
  | .sla => bit v 7
  | .sra => bit v 0
  | .swap => false
  | .srl => bit v 0

/-- The result of a rotate, shift or swap; `c` is `fC` (rules R275 to R282). -/
def rotVal (op : RotOp) (v : Byte) (c : Bool) : Byte :=
  match op with
  | .rlc => v.extractLsb' 0 7 ++ v.extractLsb' 7 1
  | .rrc => v.extractLsb' 0 1 ++ v.extractLsb' 1 7
  | .rl => v.extractLsb' 0 7 ++ BitVec.ofBool c
  | .rr => BitVec.ofBool c ++ v.extractLsb' 1 7
  | .sla => v.extractLsb' 0 7 ++ 0#1
  | .sra => v.extractLsb' 7 1 ++ v.extractLsb' 1 7
  | .swap => v.extractLsb' 0 4 ++ v.extractLsb' 4 4
  | .srl => 0#1 ++ v.extractLsb' 1 7

/-- A rotate, shift or swap of the extended page: `flags(r == 0, 0, 0, co)` (rule R274). -/
def rot (op : RotOp) (v : Byte) (c : Bool) : Res8 :=
  { val := rotVal op v c, flg := flags (decide (rotVal op v c = 0#8)) false false (rotOut op v) }

/-- The four accumulator rotates always clear Z: `flags(0, 0, 0, co)` (rules R270 to R273). -/
def rotAcc (op : RotOp) (v : Byte) (c : Bool) : Res8 :=
  { val := rotVal op v c, flg := flags false false false (rotOut op v) }

/-- The flags of `BIT b`: Z = 1 iff the bit is 0, N = 0, H = 1, C kept (rule R283). -/
def bitFlags (b : Nat) (v : Byte) (c : Bool) : Byte := flags (!bit v b) false true c

/-- `v & ~(1 << b)` (rule R284). -/
def resBit (b : Nat) (v : Byte) : Byte := v &&& ~~~ (1#8 <<< b)

/-- `v | (1 << b)` (rule R285). -/
def setBit (b : Nat) (v : Byte) : Byte := v ||| (1#8 <<< b)

end Sys2Proof.Machine
end

