-- ==== Sys2Proof/Machine/Operands.lean ====
section
/-! DEFINITION. Every operand form: the 8-bit registers, the two pair tables, the conditions, and the
accessors of the flag byte (rules R20 to R23, R144 to R147, R170, R300). -/

namespace Sys2Proof.Machine

/-! ### 8-bit registers -/

/-- Reads `r8[i]`, `i` not 6 (rules R144, R170). -/
def Regs.get (g : Regs) : Reg8 → Byte
  | .b => g.b
  | .c => g.c
  | .d => g.d
  | .e => g.e
  | .h => g.h
  | .l => g.l
  | .a => g.a

/-- Writes `r8[i]`, `i` not 6 (rules R144, R170). -/
def Regs.set (g : Regs) (r : Reg8) (v : Byte) : Regs :=
  match r with
  | .b => { g with b := v }
  | .c => { g with c := v }
  | .d => { g with d := v }
  | .e => { g with e := v }
  | .h => { g with h := v }
  | .l => { g with l := v }
  | .a => { g with a := v }

/-! ### Register pairs: views, the first-named register in the high byte (rule R22) -/

/-- `BC`. -/
def Regs.bc (g : Regs) : Word := join g.b g.c

/-- `DE`. -/
def Regs.de (g : Regs) : Word := join g.d g.e

/-- `HL`. -/
def Regs.hl (g : Regs) : Word := join g.h g.l

/-- `AF`. -/
def Regs.af (g : Regs) : Word := join g.a g.f

/-- `BC <- v`. -/
def Regs.setBc (g : Regs) (v : Word) : Regs := { g with b := hiByte v, c := loByte v }

/-- `DE <- v`. -/
def Regs.setDe (g : Regs) (v : Word) : Regs := { g with d := hiByte v, e := loByte v }

/-- `HL <- v`. -/
def Regs.setHl (g : Regs) (v : Word) : Regs := { g with h := hiByte v, l := loByte v }

/-- `AF <- v`: "Every write to `F` ... stores `v & 0xF0`" (rules R21, R22, R206). -/
def Regs.setAf (g : Regs) (v : Word) : Regs := { g with a := hiByte v, f := loByte v &&& 0xF0#8 }

/-- `rp[p]` (rule R145). -/
def Regs.getRp (g : Regs) : Rp → Word
  | .bc => g.bc
  | .de => g.de
  | .hl => g.hl
  | .sp => g.sp

/-- `rp[p] <- v`. -/
def Regs.setRp (g : Regs) (p : Rp) (v : Word) : Regs :=
  match p with
  | .bc => g.setBc v
  | .de => g.setDe v
  | .hl => g.setHl v
  | .sp => { g with sp := v }

/-- `rp2[p]` (rule R146). -/
def Regs.getRp2 (g : Regs) : Rp2 → Word
  | .bc => g.bc
  | .de => g.de
  | .hl => g.hl
  | .af => g.af

/-- `rp2[p] <- v`. -/
def Regs.setRp2 (g : Regs) (p : Rp2) (v : Word) : Regs :=
  match p with
  | .bc => g.setBc v
  | .de => g.setDe v
  | .hl => g.setHl v
  | .af => g.setAf v

/-! ### The flag byte (rule R21) -/

/-- `fZ`, bit 7 of `F`. -/
def Regs.fZ (g : Regs) : Bool := bit g.f 7

/-- `fN`, bit 6 of `F`. -/
def Regs.fN (g : Regs) : Bool := bit g.f 6

/-- `fH`, bit 5 of `F`. -/
def Regs.fH (g : Regs) : Bool := bit g.f 5

/-- `fC`, bit 4 of `F`. -/
def Regs.fC (g : Regs) : Bool := bit g.f 4

/-- `Cond(i)` (rule R300). -/
def Regs.cond (g : Regs) : Cond → Bool
  | .nz => !g.fZ
  | .z => g.fZ
  | .nc => !g.fC
  | .c => g.fC

/-! ### Operands in memory -/

/-- The byte at `HL`: `r8[6]` read (rules R144, R170). -/
def readHl (s : State) : Byte := memRead s s.regs.hl

/-- Writes the byte at `HL`: `r8[6]` written (rules R144, R170). -/
def writeHl (s : State) (v : Byte) : State := memWrite s s.regs.hl v

end Sys2Proof.Machine
end

