-- ==== Sys2Proof/Machine/Ops.lean ====
section
/-! DEFINITION. The named operations over registers and memory that the meanings share: the cycle count,
the stack (rule R200), taking an interrupt and the return from one (rules R446 to R456). The one-byte and
two-byte accesses to memory are `memRead`, `memWrite`, `memRead16`, `memWrite16` of the Bus. -/

namespace Sys2Proof.Machine

/-- A run state with the count set. -/
def Run.withCycles (r : Run) (n : Nat) : Run := { r with cycles := n }

/-- `cycles <- n` (rule R11): the count `CPU.step` returns for this instruction. -/
def State.spend (s : State) (n : Nat) : State := { s with run := s.run.withCycles n }

/-- The registers replaced. -/
def State.withRegs (s : State) (g : Regs) : State := { s with regs := g }

/-- `PC <- target` (rules R11, R312). -/
def State.jump (s : State) (target : Word) : State := s.withRegs { s.regs with pc := target }

/-- One half of `Push16`: `SP <- (SP - 1) mod 65536; MemWrite(SP, 1, v)` (rule R200). -/
def pushByte (s : State) (v : Byte) : State :=
  memWrite (s.withRegs { s.regs with sp := s.regs.sp - 1#16 }) (s.regs.sp - 1#16) v

/-- `Push16(v)` (rule R200): the high byte at `SP - 1` first, then the low byte at `SP - 2`. -/
def push16 (s : State) (v : Word) : State := pushByte (pushByte s (hiByte v)) (loByte v)

/-- The word `Pop16()` answers (rule R200): the low byte at `SP`, the high byte at `SP + 1`. -/
def popVal (s : State) : Word := memRead16 s s.regs.sp

/-- The registers after `Pop16()` has moved `SP` (rule R200). -/
def popRegs (g : Regs) : Regs := { g with sp := g.sp + 2#16 }

/-! ### Interrupts (`60_exceptions.md`) -/

/-- `pending = IE & IF & 0x1F` (rule R446). -/
def pending (q : Irq) : BitVec 5 := q.ie.extractLsb' 0 5 &&& q.iflag

/-- The fixed address a source jumps to: `0x0040 + 8 * n` (rules R442, R458). -/
def vector (n : Source) : Word := BitVec.ofNat 16 (0x0040 + 8 * n.bitIndex)

/-- The source the priority scan takes: the lowest of bits 0, 1, 2, 4; bit 3 is never taken (rules R446 to R448). -/
def selectSource (p : BitVec 5) : Option Source :=
  if bit p 0 then some .vblank
  else if bit p 1 then some .status
  else if bit p 2 then some .timer
  else if bit p 4 then some .input
  else none

/-- Clears one request bit, `IF[n] <- 0` (rule R446). -/
def clearIrq (n : Source) (s : State) : State :=
  { s with irq := { s.irq with iflag := s.irq.iflag &&& ~~~ (1#5 <<< n.bitIndex) } }

/-- Trap entry (rules R446, R453): `IF[n]` cleared, `PC` pushed, `PC` at the vector, `IME`, `ei_delay` and
`halted` cleared, 20 cycles. Nothing else is saved or changed. -/
def takeInterrupt (n : Source) (s : State) : State :=
  let s1 := push16 (clearIrq n s) s.regs.pc
  { (s1.jump (vector n)) with
    run := { s1.run with ime := false, eiDelay := .zero, halted := false, cycles := 20 } }

/-- Return from a handler (rules R310, R456): `PC <- Pop16(); IME <- 1; ei_delay <- 0`; it restores nothing else. -/
def returnFromInterrupt (s : State) : State :=
  { (s.withRegs { popRegs s.regs with pc := popVal s }) with
    run := { s.run with ime := true, eiDelay := .zero } }

/-- `CheckAndDispatch()` (rule R446): the state after it, and whether it dispatched. -/
def checkAndDispatch (s : State) : State × Bool :=
  if pending s.irq = 0#5 then (s, false)
  else
    let woken : State := { s with run := { s.run with halted := false } }
    if s.run.ime then
      match selectSource (pending s.irq) with
      | some n => (takeInterrupt n woken, true)
      | none => (woken, false)
    else (woken, false)

/-! ### Fetching (rules R24, R137, R140) -/

/-- The instruction at `PC`: the bytes at consecutive addresses mod 65536, read by the Bus. No read changes
state and every instruction fetches all its bytes before its first write, so reading them at once is what
`Fetch8` and `Fetch16` do one after another. -/
def fetchInstr (s : State) : Instr :=
  decodeBytes (memRead s s.regs.pc) (memRead s (s.regs.pc + 1#16)) (memRead s (s.regs.pc + 2#16))

/-- `PC` past the bytes of `i` (rule R24). -/
def advance (s : State) (i : Instr) : State := s.jump (s.regs.pc + BitVec.ofNat 16 i.length)

end Sys2Proof.Machine
end

