-- ==== Sys2Proof/Machine/Alu16.lean ====
section
/-! DEFINITION. 16-bit arithmetic (`43_alu16.md`). -/

namespace Sys2Proof.Machine

/-! ### Shared operations -/

/-- `ADD HL,rp`: Z kept, N = 0 (rule R261). -/
def addHlPair (p : Rp) (s : State) : State :=
  let r := add16 s.regs.hl (s.regs.getRp p)
  (s.withRegs { s.regs.setHl r.val with f := flags s.regs.fZ false r.half r.carry }).spend 8

/-- `rp[p] <- rp[p] + d`, no flag (rules R262, R263). -/
def stepPair (d : Word) (p : Rp) (s : State) : State :=
  (s.withRegs (s.regs.setRp p (s.regs.getRp p + d))).spend 8

/-- `SP <- SP + e`, `flags(0, 0, h, c)` by `AddRel` (rule R264). -/
def addSp (e : Byte) (s : State) : State :=
  let r := addRel s.regs.sp e
  (s.withRegs { s.regs with sp := r.val, f := flags false false r.half r.carry }).spend 16

/-! ### The instructions -/

/-- `ADD HL,BC`, 09 (rule R261). -/
def exec_add_hl_bc (s : State) : Host.Outcome State Fault Refusal := .next (addHlPair .bc s)

/-- `ADD HL,DE`, 19 (rule R261). -/
def exec_add_hl_de (s : State) : Host.Outcome State Fault Refusal := .next (addHlPair .de s)

/-- `ADD HL,HL`, 29 (rule R261). -/
def exec_add_hl_hl (s : State) : Host.Outcome State Fault Refusal := .next (addHlPair .hl s)

/-- `ADD HL,SP`, 39 (rule R261). -/
def exec_add_hl_sp (s : State) : Host.Outcome State Fault Refusal := .next (addHlPair .sp s)

/-- `INC BC`, 03 (rule R262). -/
def exec_inc_bc (s : State) : Host.Outcome State Fault Refusal := .next (stepPair 1#16 .bc s)

/-- `INC DE`, 13 (rule R262). -/
def exec_inc_de (s : State) : Host.Outcome State Fault Refusal := .next (stepPair 1#16 .de s)

/-- `INC HL`, 23 (rule R262). -/
def exec_inc_hl (s : State) : Host.Outcome State Fault Refusal := .next (stepPair 1#16 .hl s)

/-- `INC SP`, 33 (rule R262). -/
def exec_inc_sp (s : State) : Host.Outcome State Fault Refusal := .next (stepPair 1#16 .sp s)

/-- `DEC BC`, 0B (rule R263). -/
def exec_dec_bc (s : State) : Host.Outcome State Fault Refusal := .next (stepPair (-1#16) .bc s)

/-- `DEC DE`, 1B (rule R263). -/
def exec_dec_de (s : State) : Host.Outcome State Fault Refusal := .next (stepPair (-1#16) .de s)

/-- `DEC HL`, 2B (rule R263). -/
def exec_dec_hl (s : State) : Host.Outcome State Fault Refusal := .next (stepPair (-1#16) .hl s)

/-- `DEC SP`, 3B (rule R263). -/
def exec_dec_sp (s : State) : Host.Outcome State Fault Refusal := .next (stepPair (-1#16) .sp s)

/-- `ADD SP,e8`, E8 (rule R264). -/
def exec_add_sp_e8 (e : Byte) (s : State) : Host.Outcome State Fault Refusal := .next (addSp e s)

end Sys2Proof.Machine
end

