-- ==== Sys2Proof/Machine/Alu8.lean ====
section
/-! DEFINITION. 8-bit arithmetic and logic (`42_alu8.md`). -/

namespace Sys2Proof.Machine

/-! ### Shared operations -/

/-- `A` and `F` from an accumulator operation on `A` and `v`, in `k` cycles (rules R220 to R228). -/
def aluOp (op : AluOp) (v : Byte) (k : Nat) (s : State) : State :=
  let r := alu op s.regs.a v s.regs.fC
  (s.withRegs { s.regs with a := r.val, f := r.flg }).spend k

/-- `INC r` (rule R229). -/
def incReg (y : Reg8) (s : State) : State :=
  let r := inc8 (s.regs.get y) s.regs.fC
  (s.withRegs { s.regs.set y r.val with f := r.flg }).spend 4

/-- `DEC r` (rule R231). -/
def decReg (y : Reg8) (s : State) : State :=
  let r := dec8 (s.regs.get y) s.regs.fC
  (s.withRegs { s.regs.set y r.val with f := r.flg }).spend 4

/-- One read of `(HL)`, the flags, one write of `(HL)` (rules R78, R230, R232, R274). -/
def modifyHl (r : Res8) (k : Nat) (s : State) : State :=
  (writeHl (s.withRegs { s.regs with f := r.flg }) r.val).spend k

/-- `DAA` (rule R233). -/
def daaAcc (s : State) : State :=
  let r := daa s.regs.a s.regs.fN s.regs.fH s.regs.fC
  (s.withRegs { s.regs with a := r.val, f := r.flg }).spend 4

/-- `CPL` (rule R234). -/
def complement (s : State) : State :=
  (s.withRegs { s.regs with a := s.regs.a ^^^ 0xFF#8, f := flags s.regs.fZ true true s.regs.fC }).spend 4

/-- `SCF` and `CCF`: `flags(fZ, 0, 0, c)` (rules R235, R236). -/
def setCarry (c : Bool) (s : State) : State :=
  (s.withRegs { s.regs with f := flags s.regs.fZ false false c }).spend 4

/-! ### `ADD` -/

/-- `ADD A,B`, 80 (rule R221). -/
def exec_add_a_b (s : State) : Host.Outcome State Fault Refusal := .next (aluOp .add (s.regs.get .b) 4 s)

/-- `ADD A,C`, 81 (rule R221). -/
def exec_add_a_c (s : State) : Host.Outcome State Fault Refusal := .next (aluOp .add (s.regs.get .c) 4 s)

/-- `ADD A,D`, 82 (rule R221). -/
def exec_add_a_d (s : State) : Host.Outcome State Fault Refusal := .next (aluOp .add (s.regs.get .d) 4 s)

/-- `ADD A,E`, 83 (rule R221). -/
def exec_add_a_e (s : State) : Host.Outcome State Fault Refusal := .next (aluOp .add (s.regs.get .e) 4 s)

/-- `ADD A,H`, 84 (rule R221). -/
def exec_add_a_h (s : State) : Host.Outcome State Fault Refusal := .next (aluOp .add (s.regs.get .h) 4 s)

/-- `ADD A,L`, 85 (rule R221). -/
def exec_add_a_l (s : State) : Host.Outcome State Fault Refusal := .next (aluOp .add (s.regs.get .l) 4 s)

/-- `ADD A,A`, 87 (rule R221). -/
def exec_add_a_a (s : State) : Host.Outcome State Fault Refusal := .next (aluOp .add (s.regs.get .a) 4 s)

/-- `ADD A,(HL)`, 86 (rule R221). -/
def exec_add_a_atHL (s : State) : Host.Outcome State Fault Refusal := .next (aluOp .add (readHl s) 8 s)

/-- `ADD A,d8`, C6 (rule R221). -/
def exec_add_a_d8 (n : Byte) (s : State) : Host.Outcome State Fault Refusal := .next (aluOp .add n 8 s)

/-! ### `ADC` -/

/-- `ADC A,B`, 88 (rule R222). -/
def exec_adc_a_b (s : State) : Host.Outcome State Fault Refusal := .next (aluOp .adc (s.regs.get .b) 4 s)

/-- `ADC A,C`, 89 (rule R222). -/
def exec_adc_a_c (s : State) : Host.Outcome State Fault Refusal := .next (aluOp .adc (s.regs.get .c) 4 s)

/-- `ADC A,D`, 8A (rule R222). -/
def exec_adc_a_d (s : State) : Host.Outcome State Fault Refusal := .next (aluOp .adc (s.regs.get .d) 4 s)

/-- `ADC A,E`, 8B (rule R222). -/
def exec_adc_a_e (s : State) : Host.Outcome State Fault Refusal := .next (aluOp .adc (s.regs.get .e) 4 s)

/-- `ADC A,H`, 8C (rule R222). -/
def exec_adc_a_h (s : State) : Host.Outcome State Fault Refusal := .next (aluOp .adc (s.regs.get .h) 4 s)

/-- `ADC A,L`, 8D (rule R222). -/
def exec_adc_a_l (s : State) : Host.Outcome State Fault Refusal := .next (aluOp .adc (s.regs.get .l) 4 s)

/-- `ADC A,A`, 8F (rule R222). -/
def exec_adc_a_a (s : State) : Host.Outcome State Fault Refusal := .next (aluOp .adc (s.regs.get .a) 4 s)

/-- `ADC A,(HL)`, 8E (rule R222). -/
def exec_adc_a_atHL (s : State) : Host.Outcome State Fault Refusal := .next (aluOp .adc (readHl s) 8 s)

/-- `ADC A,d8`, CE (rule R222). -/
def exec_adc_a_d8 (n : Byte) (s : State) : Host.Outcome State Fault Refusal := .next (aluOp .adc n 8 s)

/-! ### `SUB` -/

/-- `SUB A,B`, 90 (rule R223). -/
def exec_sub_a_b (s : State) : Host.Outcome State Fault Refusal := .next (aluOp .sub (s.regs.get .b) 4 s)

/-- `SUB A,C`, 91 (rule R223). -/
def exec_sub_a_c (s : State) : Host.Outcome State Fault Refusal := .next (aluOp .sub (s.regs.get .c) 4 s)

/-- `SUB A,D`, 92 (rule R223). -/
def exec_sub_a_d (s : State) : Host.Outcome State Fault Refusal := .next (aluOp .sub (s.regs.get .d) 4 s)

/-- `SUB A,E`, 93 (rule R223). -/
def exec_sub_a_e (s : State) : Host.Outcome State Fault Refusal := .next (aluOp .sub (s.regs.get .e) 4 s)

/-- `SUB A,H`, 94 (rule R223). -/
def exec_sub_a_h (s : State) : Host.Outcome State Fault Refusal := .next (aluOp .sub (s.regs.get .h) 4 s)

/-- `SUB A,L`, 95 (rule R223). -/
def exec_sub_a_l (s : State) : Host.Outcome State Fault Refusal := .next (aluOp .sub (s.regs.get .l) 4 s)

/-- `SUB A,A`, 97 (rule R223). -/
def exec_sub_a_a (s : State) : Host.Outcome State Fault Refusal := .next (aluOp .sub (s.regs.get .a) 4 s)

/-- `SUB A,(HL)`, 96 (rule R223). -/
def exec_sub_a_atHL (s : State) : Host.Outcome State Fault Refusal := .next (aluOp .sub (readHl s) 8 s)

/-- `SUB A,d8`, D6 (rule R223). -/
def exec_sub_a_d8 (n : Byte) (s : State) : Host.Outcome State Fault Refusal := .next (aluOp .sub n 8 s)

/-! ### `SBC` -/

/-- `SBC A,B`, 98 (rule R224). -/
def exec_sbc_a_b (s : State) : Host.Outcome State Fault Refusal := .next (aluOp .sbc (s.regs.get .b) 4 s)

/-- `SBC A,C`, 99 (rule R224). -/
def exec_sbc_a_c (s : State) : Host.Outcome State Fault Refusal := .next (aluOp .sbc (s.regs.get .c) 4 s)

/-- `SBC A,D`, 9A (rule R224). -/
def exec_sbc_a_d (s : State) : Host.Outcome State Fault Refusal := .next (aluOp .sbc (s.regs.get .d) 4 s)

/-- `SBC A,E`, 9B (rule R224). -/
def exec_sbc_a_e (s : State) : Host.Outcome State Fault Refusal := .next (aluOp .sbc (s.regs.get .e) 4 s)

/-- `SBC A,H`, 9C (rule R224). -/
def exec_sbc_a_h (s : State) : Host.Outcome State Fault Refusal := .next (aluOp .sbc (s.regs.get .h) 4 s)

/-- `SBC A,L`, 9D (rule R224). -/
def exec_sbc_a_l (s : State) : Host.Outcome State Fault Refusal := .next (aluOp .sbc (s.regs.get .l) 4 s)

/-- `SBC A,A`, 9F (rule R224). -/
def exec_sbc_a_a (s : State) : Host.Outcome State Fault Refusal := .next (aluOp .sbc (s.regs.get .a) 4 s)

/-- `SBC A,(HL)`, 9E (rule R224). -/
def exec_sbc_a_atHL (s : State) : Host.Outcome State Fault Refusal := .next (aluOp .sbc (readHl s) 8 s)

/-- `SBC A,d8`, DE (rule R224). -/
def exec_sbc_a_d8 (n : Byte) (s : State) : Host.Outcome State Fault Refusal := .next (aluOp .sbc n 8 s)

/-! ### `AND` -/

/-- `AND A,B`, A0 (rule R225). -/
def exec_and_a_b (s : State) : Host.Outcome State Fault Refusal := .next (aluOp .and (s.regs.get .b) 4 s)

/-- `AND A,C`, A1 (rule R225). -/
def exec_and_a_c (s : State) : Host.Outcome State Fault Refusal := .next (aluOp .and (s.regs.get .c) 4 s)

/-- `AND A,D`, A2 (rule R225). -/
def exec_and_a_d (s : State) : Host.Outcome State Fault Refusal := .next (aluOp .and (s.regs.get .d) 4 s)

/-- `AND A,E`, A3 (rule R225). -/
def exec_and_a_e (s : State) : Host.Outcome State Fault Refusal := .next (aluOp .and (s.regs.get .e) 4 s)

/-- `AND A,H`, A4 (rule R225). -/
def exec_and_a_h (s : State) : Host.Outcome State Fault Refusal := .next (aluOp .and (s.regs.get .h) 4 s)

/-- `AND A,L`, A5 (rule R225). -/
def exec_and_a_l (s : State) : Host.Outcome State Fault Refusal := .next (aluOp .and (s.regs.get .l) 4 s)

/-- `AND A,A`, A7 (rule R225). -/
def exec_and_a_a (s : State) : Host.Outcome State Fault Refusal := .next (aluOp .and (s.regs.get .a) 4 s)

/-- `AND A,(HL)`, A6 (rule R225). -/
def exec_and_a_atHL (s : State) : Host.Outcome State Fault Refusal := .next (aluOp .and (readHl s) 8 s)

/-- `AND A,d8`, E6 (rule R225). -/
def exec_and_a_d8 (n : Byte) (s : State) : Host.Outcome State Fault Refusal := .next (aluOp .and n 8 s)

/-! ### `XOR` -/

/-- `XOR A,B`, A8 (rule R226). -/
def exec_xor_a_b (s : State) : Host.Outcome State Fault Refusal := .next (aluOp .xor (s.regs.get .b) 4 s)

/-- `XOR A,C`, A9 (rule R226). -/
def exec_xor_a_c (s : State) : Host.Outcome State Fault Refusal := .next (aluOp .xor (s.regs.get .c) 4 s)

/-- `XOR A,D`, AA (rule R226). -/
def exec_xor_a_d (s : State) : Host.Outcome State Fault Refusal := .next (aluOp .xor (s.regs.get .d) 4 s)

/-- `XOR A,E`, AB (rule R226). -/
def exec_xor_a_e (s : State) : Host.Outcome State Fault Refusal := .next (aluOp .xor (s.regs.get .e) 4 s)

/-- `XOR A,H`, AC (rule R226). -/
def exec_xor_a_h (s : State) : Host.Outcome State Fault Refusal := .next (aluOp .xor (s.regs.get .h) 4 s)

/-- `XOR A,L`, AD (rule R226). -/
def exec_xor_a_l (s : State) : Host.Outcome State Fault Refusal := .next (aluOp .xor (s.regs.get .l) 4 s)

/-- `XOR A,A`, AF (rule R226). -/
def exec_xor_a_a (s : State) : Host.Outcome State Fault Refusal := .next (aluOp .xor (s.regs.get .a) 4 s)

/-- `XOR A,(HL)`, AE (rule R226). -/
def exec_xor_a_atHL (s : State) : Host.Outcome State Fault Refusal := .next (aluOp .xor (readHl s) 8 s)

/-- `XOR A,d8`, EE (rule R226). -/
def exec_xor_a_d8 (n : Byte) (s : State) : Host.Outcome State Fault Refusal := .next (aluOp .xor n 8 s)

/-! ### `OR` -/

/-- `OR A,B`, B0 (rule R227). -/
def exec_or_a_b (s : State) : Host.Outcome State Fault Refusal := .next (aluOp .or (s.regs.get .b) 4 s)

/-- `OR A,C`, B1 (rule R227). -/
def exec_or_a_c (s : State) : Host.Outcome State Fault Refusal := .next (aluOp .or (s.regs.get .c) 4 s)

/-- `OR A,D`, B2 (rule R227). -/
def exec_or_a_d (s : State) : Host.Outcome State Fault Refusal := .next (aluOp .or (s.regs.get .d) 4 s)

/-- `OR A,E`, B3 (rule R227). -/
def exec_or_a_e (s : State) : Host.Outcome State Fault Refusal := .next (aluOp .or (s.regs.get .e) 4 s)

/-- `OR A,H`, B4 (rule R227). -/
def exec_or_a_h (s : State) : Host.Outcome State Fault Refusal := .next (aluOp .or (s.regs.get .h) 4 s)

/-- `OR A,L`, B5 (rule R227). -/
def exec_or_a_l (s : State) : Host.Outcome State Fault Refusal := .next (aluOp .or (s.regs.get .l) 4 s)

/-- `OR A,A`, B7 (rule R227). -/
def exec_or_a_a (s : State) : Host.Outcome State Fault Refusal := .next (aluOp .or (s.regs.get .a) 4 s)

/-- `OR A,(HL)`, B6 (rule R227). -/
def exec_or_a_atHL (s : State) : Host.Outcome State Fault Refusal := .next (aluOp .or (readHl s) 8 s)

/-- `OR A,d8`, F6 (rule R227). -/
def exec_or_a_d8 (n : Byte) (s : State) : Host.Outcome State Fault Refusal := .next (aluOp .or n 8 s)

/-! ### `CP` -/

/-- `CP A,B`, B8 (rule R228). -/
def exec_cp_a_b (s : State) : Host.Outcome State Fault Refusal := .next (aluOp .cp (s.regs.get .b) 4 s)

/-- `CP A,C`, B9 (rule R228). -/
def exec_cp_a_c (s : State) : Host.Outcome State Fault Refusal := .next (aluOp .cp (s.regs.get .c) 4 s)

/-- `CP A,D`, BA (rule R228). -/
def exec_cp_a_d (s : State) : Host.Outcome State Fault Refusal := .next (aluOp .cp (s.regs.get .d) 4 s)

/-- `CP A,E`, BB (rule R228). -/
def exec_cp_a_e (s : State) : Host.Outcome State Fault Refusal := .next (aluOp .cp (s.regs.get .e) 4 s)

/-- `CP A,H`, BC (rule R228). -/
def exec_cp_a_h (s : State) : Host.Outcome State Fault Refusal := .next (aluOp .cp (s.regs.get .h) 4 s)

/-- `CP A,L`, BD (rule R228). -/
def exec_cp_a_l (s : State) : Host.Outcome State Fault Refusal := .next (aluOp .cp (s.regs.get .l) 4 s)

/-- `CP A,A`, BF (rule R228). -/
def exec_cp_a_a (s : State) : Host.Outcome State Fault Refusal := .next (aluOp .cp (s.regs.get .a) 4 s)

/-- `CP A,(HL)`, BE (rule R228). -/
def exec_cp_a_atHL (s : State) : Host.Outcome State Fault Refusal := .next (aluOp .cp (readHl s) 8 s)

/-- `CP A,d8`, FE (rule R228). -/
def exec_cp_a_d8 (n : Byte) (s : State) : Host.Outcome State Fault Refusal := .next (aluOp .cp n 8 s)

/-! ### Increment and decrement -/

/-- `INC B`, 04 (rule R229). -/
def exec_inc_b (s : State) : Host.Outcome State Fault Refusal := .next (incReg .b s)

/-- `INC C`, 0C (rule R229). -/
def exec_inc_c (s : State) : Host.Outcome State Fault Refusal := .next (incReg .c s)

/-- `INC D`, 14 (rule R229). -/
def exec_inc_d (s : State) : Host.Outcome State Fault Refusal := .next (incReg .d s)

/-- `INC E`, 1C (rule R229). -/
def exec_inc_e (s : State) : Host.Outcome State Fault Refusal := .next (incReg .e s)

/-- `INC H`, 24 (rule R229). -/
def exec_inc_h (s : State) : Host.Outcome State Fault Refusal := .next (incReg .h s)

/-- `INC L`, 2C (rule R229). -/
def exec_inc_l (s : State) : Host.Outcome State Fault Refusal := .next (incReg .l s)

/-- `INC A`, 3C (rule R229). -/
def exec_inc_a (s : State) : Host.Outcome State Fault Refusal := .next (incReg .a s)

/-- `INC (HL)`, 34 (rule R230). -/
def exec_inc_atHL (s : State) : Host.Outcome State Fault Refusal := .next (modifyHl (inc8 (readHl s) s.regs.fC) 12 s)

/-- `DEC B`, 05 (rule R231). -/
def exec_dec_b (s : State) : Host.Outcome State Fault Refusal := .next (decReg .b s)

/-- `DEC C`, 0D (rule R231). -/
def exec_dec_c (s : State) : Host.Outcome State Fault Refusal := .next (decReg .c s)

/-- `DEC D`, 15 (rule R231). -/
def exec_dec_d (s : State) : Host.Outcome State Fault Refusal := .next (decReg .d s)

/-- `DEC E`, 1D (rule R231). -/
def exec_dec_e (s : State) : Host.Outcome State Fault Refusal := .next (decReg .e s)

/-- `DEC H`, 25 (rule R231). -/
def exec_dec_h (s : State) : Host.Outcome State Fault Refusal := .next (decReg .h s)

/-- `DEC L`, 2D (rule R231). -/
def exec_dec_l (s : State) : Host.Outcome State Fault Refusal := .next (decReg .l s)

/-- `DEC A`, 3D (rule R231). -/
def exec_dec_a (s : State) : Host.Outcome State Fault Refusal := .next (decReg .a s)

/-- `DEC (HL)`, 35 (rule R232). -/
def exec_dec_atHL (s : State) : Host.Outcome State Fault Refusal := .next (modifyHl (dec8 (readHl s) s.regs.fC) 12 s)

/-! ### Decimal adjust and the flag instructions -/

/-- `DAA`, 27 (rule R233). -/
def exec_daa (s : State) : Host.Outcome State Fault Refusal := .next (daaAcc s)

/-- `CPL`, 2F (rule R234). -/
def exec_cpl (s : State) : Host.Outcome State Fault Refusal := .next (complement s)

/-- `SCF`, 37 (rule R235). -/
def exec_scf (s : State) : Host.Outcome State Fault Refusal := .next (setCarry true s)

/-- `CCF`, 3F (rule R236). -/
def exec_ccf (s : State) : Host.Outcome State Fault Refusal := .next (setCarry (!s.regs.fC) s)

end Sys2Proof.Machine
end

