-- ==== Sys2Proof/Machine/Rotate.lean ====
section
/-! DEFINITION. Rotates, shifts, swap and bit operations (`44_rotate_shift_bit.md`). -/

namespace Sys2Proof.Machine

/-! ### Shared operations -/

/-- The accumulator rotates (rules R270 to R273). -/
def rotateAcc (op : RotOp) (s : State) : State :=
  let r := rotAcc op s.regs.a s.regs.fC
  (s.withRegs { s.regs with a := r.val, f := r.flg }).spend 4

/-- `rot[y] r` (rules R274 to R282). -/
def rotReg (op : RotOp) (z : Reg8) (s : State) : State :=
  let r := rot op (s.regs.get z) s.regs.fC
  (s.withRegs { s.regs.set z r.val with f := r.flg }).spend 8

/-- `rot[y] (HL)` (rules R274 to R282). -/
def rotHl (op : RotOp) (s : State) : State := modifyHl (rot op (readHl s) s.regs.fC) 16 s

/-- `BIT b` of the value `v`, in `k` cycles (rule R283). -/
def bitTest (b : Oct) (v : Byte) (k : Nat) (s : State) : State :=
  (s.withRegs { s.regs with f := bitFlags (octNat b) v s.regs.fC }).spend k

/-- `RES b,r` (rule R284). -/
def resReg (b : Oct) (z : Reg8) (s : State) : State :=
  (s.withRegs (s.regs.set z (resBit (octNat b) (s.regs.get z)))).spend 8

/-- `SET b,r` (rule R285). -/
def setReg (b : Oct) (z : Reg8) (s : State) : State :=
  (s.withRegs (s.regs.set z (setBit (octNat b) (s.regs.get z)))).spend 8

/-- `RES b,(HL)`: read and written even when the bit was already clear (rule R284). -/
def resHl (b : Oct) (s : State) : State := (writeHl s (resBit (octNat b) (readHl s))).spend 16

/-- `SET b,(HL)` (rule R285). -/
def setHl (b : Oct) (s : State) : State := (writeHl s (setBit (octNat b) (readHl s))).spend 16

/-- The extended-page instruction a byte selects, by its `x`, `y`, `z` (rule R149): what the prefix runs
(rule R335). -/
def extPage (ext : Byte) (s : State) : State :=
  match xOf ext, r8Of (zOf ext) with
  | 0, some z => rotReg (rotOf (yOf ext)) z s
  | 0, none => rotHl (rotOf (yOf ext)) s
  | 1, some z => bitTest (octOf (yOf ext)) (s.regs.get z) 8 s
  | 1, none => bitTest (octOf (yOf ext)) (readHl s) 12 s
  | 2, some z => resReg (octOf (yOf ext)) z s
  | 2, none => resHl (octOf (yOf ext)) s
  | _, some z => setReg (octOf (yOf ext)) z s
  | _, none => setHl (octOf (yOf ext)) s

/-! ### Accumulator rotates -/

/-- `RLCA`, 07 (rule R270). -/
def exec_rlca (s : State) : Host.Outcome State Fault Refusal := .next (rotateAcc .rlc s)

/-- `RRCA`, 0F (rule R271). -/
def exec_rrca (s : State) : Host.Outcome State Fault Refusal := .next (rotateAcc .rrc s)

/-- `RLA`, 17 (rule R272). -/
def exec_rla (s : State) : Host.Outcome State Fault Refusal := .next (rotateAcc .rl s)

/-- `RRA`, 1F (rule R273). -/
def exec_rra (s : State) : Host.Outcome State Fault Refusal := .next (rotateAcc .rr s)

/-! ### `RLC` -/

/-- `RLC B`, CB 00 (rule R275). -/
def exec_rlc_b (s : State) : Host.Outcome State Fault Refusal := .next (rotReg .rlc .b s)

/-- `RLC C`, CB 01 (rule R275). -/
def exec_rlc_c (s : State) : Host.Outcome State Fault Refusal := .next (rotReg .rlc .c s)

/-- `RLC D`, CB 02 (rule R275). -/
def exec_rlc_d (s : State) : Host.Outcome State Fault Refusal := .next (rotReg .rlc .d s)

/-- `RLC E`, CB 03 (rule R275). -/
def exec_rlc_e (s : State) : Host.Outcome State Fault Refusal := .next (rotReg .rlc .e s)

/-- `RLC H`, CB 04 (rule R275). -/
def exec_rlc_h (s : State) : Host.Outcome State Fault Refusal := .next (rotReg .rlc .h s)

/-- `RLC L`, CB 05 (rule R275). -/
def exec_rlc_l (s : State) : Host.Outcome State Fault Refusal := .next (rotReg .rlc .l s)

/-- `RLC A`, CB 07 (rule R275). -/
def exec_rlc_a (s : State) : Host.Outcome State Fault Refusal := .next (rotReg .rlc .a s)

/-- `RLC (HL)`, CB 06 (rule R275). -/
def exec_rlc_atHL (s : State) : Host.Outcome State Fault Refusal := .next (rotHl .rlc s)

/-! ### `RRC` -/

/-- `RRC B`, CB 08 (rule R276). -/
def exec_rrc_b (s : State) : Host.Outcome State Fault Refusal := .next (rotReg .rrc .b s)

/-- `RRC C`, CB 09 (rule R276). -/
def exec_rrc_c (s : State) : Host.Outcome State Fault Refusal := .next (rotReg .rrc .c s)

/-- `RRC D`, CB 0A (rule R276). -/
def exec_rrc_d (s : State) : Host.Outcome State Fault Refusal := .next (rotReg .rrc .d s)

/-- `RRC E`, CB 0B (rule R276). -/
def exec_rrc_e (s : State) : Host.Outcome State Fault Refusal := .next (rotReg .rrc .e s)

/-- `RRC H`, CB 0C (rule R276). -/
def exec_rrc_h (s : State) : Host.Outcome State Fault Refusal := .next (rotReg .rrc .h s)

/-- `RRC L`, CB 0D (rule R276). -/
def exec_rrc_l (s : State) : Host.Outcome State Fault Refusal := .next (rotReg .rrc .l s)

/-- `RRC A`, CB 0F (rule R276). -/
def exec_rrc_a (s : State) : Host.Outcome State Fault Refusal := .next (rotReg .rrc .a s)

/-- `RRC (HL)`, CB 0E (rule R276). -/
def exec_rrc_atHL (s : State) : Host.Outcome State Fault Refusal := .next (rotHl .rrc s)

/-! ### `RL` -/

/-- `RL B`, CB 10 (rule R277). -/
def exec_rl_b (s : State) : Host.Outcome State Fault Refusal := .next (rotReg .rl .b s)

/-- `RL C`, CB 11 (rule R277). -/
def exec_rl_c (s : State) : Host.Outcome State Fault Refusal := .next (rotReg .rl .c s)

/-- `RL D`, CB 12 (rule R277). -/
def exec_rl_d (s : State) : Host.Outcome State Fault Refusal := .next (rotReg .rl .d s)

/-- `RL E`, CB 13 (rule R277). -/
def exec_rl_e (s : State) : Host.Outcome State Fault Refusal := .next (rotReg .rl .e s)

/-- `RL H`, CB 14 (rule R277). -/
def exec_rl_h (s : State) : Host.Outcome State Fault Refusal := .next (rotReg .rl .h s)

/-- `RL L`, CB 15 (rule R277). -/
def exec_rl_l (s : State) : Host.Outcome State Fault Refusal := .next (rotReg .rl .l s)

/-- `RL A`, CB 17 (rule R277). -/
def exec_rl_a (s : State) : Host.Outcome State Fault Refusal := .next (rotReg .rl .a s)

/-- `RL (HL)`, CB 16 (rule R277). -/
def exec_rl_atHL (s : State) : Host.Outcome State Fault Refusal := .next (rotHl .rl s)

/-! ### `RR` -/

/-- `RR B`, CB 18 (rule R278). -/
def exec_rr_b (s : State) : Host.Outcome State Fault Refusal := .next (rotReg .rr .b s)

/-- `RR C`, CB 19 (rule R278). -/
def exec_rr_c (s : State) : Host.Outcome State Fault Refusal := .next (rotReg .rr .c s)

/-- `RR D`, CB 1A (rule R278). -/
def exec_rr_d (s : State) : Host.Outcome State Fault Refusal := .next (rotReg .rr .d s)

/-- `RR E`, CB 1B (rule R278). -/
def exec_rr_e (s : State) : Host.Outcome State Fault Refusal := .next (rotReg .rr .e s)

/-- `RR H`, CB 1C (rule R278). -/
def exec_rr_h (s : State) : Host.Outcome State Fault Refusal := .next (rotReg .rr .h s)

/-- `RR L`, CB 1D (rule R278). -/
def exec_rr_l (s : State) : Host.Outcome State Fault Refusal := .next (rotReg .rr .l s)

/-- `RR A`, CB 1F (rule R278). -/
def exec_rr_a (s : State) : Host.Outcome State Fault Refusal := .next (rotReg .rr .a s)

/-- `RR (HL)`, CB 1E (rule R278). -/
def exec_rr_atHL (s : State) : Host.Outcome State Fault Refusal := .next (rotHl .rr s)

/-! ### `SLA` -/

/-- `SLA B`, CB 20 (rule R279). -/
def exec_sla_b (s : State) : Host.Outcome State Fault Refusal := .next (rotReg .sla .b s)

/-- `SLA C`, CB 21 (rule R279). -/
def exec_sla_c (s : State) : Host.Outcome State Fault Refusal := .next (rotReg .sla .c s)

/-- `SLA D`, CB 22 (rule R279). -/
def exec_sla_d (s : State) : Host.Outcome State Fault Refusal := .next (rotReg .sla .d s)

/-- `SLA E`, CB 23 (rule R279). -/
def exec_sla_e (s : State) : Host.Outcome State Fault Refusal := .next (rotReg .sla .e s)

/-- `SLA H`, CB 24 (rule R279). -/
def exec_sla_h (s : State) : Host.Outcome State Fault Refusal := .next (rotReg .sla .h s)

/-- `SLA L`, CB 25 (rule R279). -/
def exec_sla_l (s : State) : Host.Outcome State Fault Refusal := .next (rotReg .sla .l s)

/-- `SLA A`, CB 27 (rule R279). -/
def exec_sla_a (s : State) : Host.Outcome State Fault Refusal := .next (rotReg .sla .a s)

/-- `SLA (HL)`, CB 26 (rule R279). -/
def exec_sla_atHL (s : State) : Host.Outcome State Fault Refusal := .next (rotHl .sla s)

/-! ### `SRA` -/

/-- `SRA B`, CB 28 (rule R280). -/
def exec_sra_b (s : State) : Host.Outcome State Fault Refusal := .next (rotReg .sra .b s)

/-- `SRA C`, CB 29 (rule R280). -/
def exec_sra_c (s : State) : Host.Outcome State Fault Refusal := .next (rotReg .sra .c s)

/-- `SRA D`, CB 2A (rule R280). -/
def exec_sra_d (s : State) : Host.Outcome State Fault Refusal := .next (rotReg .sra .d s)

/-- `SRA E`, CB 2B (rule R280). -/
def exec_sra_e (s : State) : Host.Outcome State Fault Refusal := .next (rotReg .sra .e s)

/-- `SRA H`, CB 2C (rule R280). -/
def exec_sra_h (s : State) : Host.Outcome State Fault Refusal := .next (rotReg .sra .h s)

/-- `SRA L`, CB 2D (rule R280). -/
def exec_sra_l (s : State) : Host.Outcome State Fault Refusal := .next (rotReg .sra .l s)

/-- `SRA A`, CB 2F (rule R280). -/
def exec_sra_a (s : State) : Host.Outcome State Fault Refusal := .next (rotReg .sra .a s)

/-- `SRA (HL)`, CB 2E (rule R280). -/
def exec_sra_atHL (s : State) : Host.Outcome State Fault Refusal := .next (rotHl .sra s)

/-! ### `SWAP` -/

/-- `SWAP B`, CB 30 (rule R281). -/
def exec_swap_b (s : State) : Host.Outcome State Fault Refusal := .next (rotReg .swap .b s)

/-- `SWAP C`, CB 31 (rule R281). -/
def exec_swap_c (s : State) : Host.Outcome State Fault Refusal := .next (rotReg .swap .c s)

/-- `SWAP D`, CB 32 (rule R281). -/
def exec_swap_d (s : State) : Host.Outcome State Fault Refusal := .next (rotReg .swap .d s)

/-- `SWAP E`, CB 33 (rule R281). -/
def exec_swap_e (s : State) : Host.Outcome State Fault Refusal := .next (rotReg .swap .e s)

/-- `SWAP H`, CB 34 (rule R281). -/
def exec_swap_h (s : State) : Host.Outcome State Fault Refusal := .next (rotReg .swap .h s)

/-- `SWAP L`, CB 35 (rule R281). -/
def exec_swap_l (s : State) : Host.Outcome State Fault Refusal := .next (rotReg .swap .l s)

/-- `SWAP A`, CB 37 (rule R281). -/
def exec_swap_a (s : State) : Host.Outcome State Fault Refusal := .next (rotReg .swap .a s)

/-- `SWAP (HL)`, CB 36 (rule R281). -/
def exec_swap_atHL (s : State) : Host.Outcome State Fault Refusal := .next (rotHl .swap s)

/-! ### `SRL` -/

/-- `SRL B`, CB 38 (rule R282). -/
def exec_srl_b (s : State) : Host.Outcome State Fault Refusal := .next (rotReg .srl .b s)

/-- `SRL C`, CB 39 (rule R282). -/
def exec_srl_c (s : State) : Host.Outcome State Fault Refusal := .next (rotReg .srl .c s)

/-- `SRL D`, CB 3A (rule R282). -/
def exec_srl_d (s : State) : Host.Outcome State Fault Refusal := .next (rotReg .srl .d s)

/-- `SRL E`, CB 3B (rule R282). -/
def exec_srl_e (s : State) : Host.Outcome State Fault Refusal := .next (rotReg .srl .e s)

/-- `SRL H`, CB 3C (rule R282). -/
def exec_srl_h (s : State) : Host.Outcome State Fault Refusal := .next (rotReg .srl .h s)

/-- `SRL L`, CB 3D (rule R282). -/
def exec_srl_l (s : State) : Host.Outcome State Fault Refusal := .next (rotReg .srl .l s)

/-- `SRL A`, CB 3F (rule R282). -/
def exec_srl_a (s : State) : Host.Outcome State Fault Refusal := .next (rotReg .srl .a s)

/-- `SRL (HL)`, CB 3E (rule R282). -/
def exec_srl_atHL (s : State) : Host.Outcome State Fault Refusal := .next (rotHl .srl s)

end Sys2Proof.Machine
end

