-- ==== Sys2Proof/Machine/BitOps.lean ====
section
/-! DEFINITION. Bit test, clear and set: the arms of the extended page from 0x40 up (`44_rotate_shift_bit.md`). -/

namespace Sys2Proof.Machine

/-! ### `BIT` (rule R283) -/

/-- `BIT 0,B`, CB 40 (rule R283). -/
def exec_bit_0_b (s : State) : Host.Outcome State Fault Refusal := .next (bitTest .o0 (s.regs.get .b) 8 s)

/-- `BIT 0,C`, CB 41 (rule R283). -/
def exec_bit_0_c (s : State) : Host.Outcome State Fault Refusal := .next (bitTest .o0 (s.regs.get .c) 8 s)

/-- `BIT 0,D`, CB 42 (rule R283). -/
def exec_bit_0_d (s : State) : Host.Outcome State Fault Refusal := .next (bitTest .o0 (s.regs.get .d) 8 s)

/-- `BIT 0,E`, CB 43 (rule R283). -/
def exec_bit_0_e (s : State) : Host.Outcome State Fault Refusal := .next (bitTest .o0 (s.regs.get .e) 8 s)

/-- `BIT 0,H`, CB 44 (rule R283). -/
def exec_bit_0_h (s : State) : Host.Outcome State Fault Refusal := .next (bitTest .o0 (s.regs.get .h) 8 s)

/-- `BIT 0,L`, CB 45 (rule R283). -/
def exec_bit_0_l (s : State) : Host.Outcome State Fault Refusal := .next (bitTest .o0 (s.regs.get .l) 8 s)

/-- `BIT 0,A`, CB 47 (rule R283). -/
def exec_bit_0_a (s : State) : Host.Outcome State Fault Refusal := .next (bitTest .o0 (s.regs.get .a) 8 s)

/-- `BIT 0,(HL)`, CB 46 (rule R283). -/
def exec_bit_0_atHL (s : State) : Host.Outcome State Fault Refusal := .next (bitTest .o0 (readHl s) 12 s)

/-- `BIT 1,B`, CB 48 (rule R283). -/
def exec_bit_1_b (s : State) : Host.Outcome State Fault Refusal := .next (bitTest .o1 (s.regs.get .b) 8 s)

/-- `BIT 1,C`, CB 49 (rule R283). -/
def exec_bit_1_c (s : State) : Host.Outcome State Fault Refusal := .next (bitTest .o1 (s.regs.get .c) 8 s)

/-- `BIT 1,D`, CB 4A (rule R283). -/
def exec_bit_1_d (s : State) : Host.Outcome State Fault Refusal := .next (bitTest .o1 (s.regs.get .d) 8 s)

/-- `BIT 1,E`, CB 4B (rule R283). -/
def exec_bit_1_e (s : State) : Host.Outcome State Fault Refusal := .next (bitTest .o1 (s.regs.get .e) 8 s)

/-- `BIT 1,H`, CB 4C (rule R283). -/
def exec_bit_1_h (s : State) : Host.Outcome State Fault Refusal := .next (bitTest .o1 (s.regs.get .h) 8 s)

/-- `BIT 1,L`, CB 4D (rule R283). -/
def exec_bit_1_l (s : State) : Host.Outcome State Fault Refusal := .next (bitTest .o1 (s.regs.get .l) 8 s)

/-- `BIT 1,A`, CB 4F (rule R283). -/
def exec_bit_1_a (s : State) : Host.Outcome State Fault Refusal := .next (bitTest .o1 (s.regs.get .a) 8 s)

/-- `BIT 1,(HL)`, CB 4E (rule R283). -/
def exec_bit_1_atHL (s : State) : Host.Outcome State Fault Refusal := .next (bitTest .o1 (readHl s) 12 s)

/-- `BIT 2,B`, CB 50 (rule R283). -/
def exec_bit_2_b (s : State) : Host.Outcome State Fault Refusal := .next (bitTest .o2 (s.regs.get .b) 8 s)

/-- `BIT 2,C`, CB 51 (rule R283). -/
def exec_bit_2_c (s : State) : Host.Outcome State Fault Refusal := .next (bitTest .o2 (s.regs.get .c) 8 s)

/-- `BIT 2,D`, CB 52 (rule R283). -/
def exec_bit_2_d (s : State) : Host.Outcome State Fault Refusal := .next (bitTest .o2 (s.regs.get .d) 8 s)

/-- `BIT 2,E`, CB 53 (rule R283). -/
def exec_bit_2_e (s : State) : Host.Outcome State Fault Refusal := .next (bitTest .o2 (s.regs.get .e) 8 s)

/-- `BIT 2,H`, CB 54 (rule R283). -/
def exec_bit_2_h (s : State) : Host.Outcome State Fault Refusal := .next (bitTest .o2 (s.regs.get .h) 8 s)

/-- `BIT 2,L`, CB 55 (rule R283). -/
def exec_bit_2_l (s : State) : Host.Outcome State Fault Refusal := .next (bitTest .o2 (s.regs.get .l) 8 s)

/-- `BIT 2,A`, CB 57 (rule R283). -/
def exec_bit_2_a (s : State) : Host.Outcome State Fault Refusal := .next (bitTest .o2 (s.regs.get .a) 8 s)

/-- `BIT 2,(HL)`, CB 56 (rule R283). -/
def exec_bit_2_atHL (s : State) : Host.Outcome State Fault Refusal := .next (bitTest .o2 (readHl s) 12 s)

/-- `BIT 3,B`, CB 58 (rule R283). -/
def exec_bit_3_b (s : State) : Host.Outcome State Fault Refusal := .next (bitTest .o3 (s.regs.get .b) 8 s)

/-- `BIT 3,C`, CB 59 (rule R283). -/
def exec_bit_3_c (s : State) : Host.Outcome State Fault Refusal := .next (bitTest .o3 (s.regs.get .c) 8 s)

/-- `BIT 3,D`, CB 5A (rule R283). -/
def exec_bit_3_d (s : State) : Host.Outcome State Fault Refusal := .next (bitTest .o3 (s.regs.get .d) 8 s)

/-- `BIT 3,E`, CB 5B (rule R283). -/
def exec_bit_3_e (s : State) : Host.Outcome State Fault Refusal := .next (bitTest .o3 (s.regs.get .e) 8 s)

/-- `BIT 3,H`, CB 5C (rule R283). -/
def exec_bit_3_h (s : State) : Host.Outcome State Fault Refusal := .next (bitTest .o3 (s.regs.get .h) 8 s)

/-- `BIT 3,L`, CB 5D (rule R283). -/
def exec_bit_3_l (s : State) : Host.Outcome State Fault Refusal := .next (bitTest .o3 (s.regs.get .l) 8 s)

/-- `BIT 3,A`, CB 5F (rule R283). -/
def exec_bit_3_a (s : State) : Host.Outcome State Fault Refusal := .next (bitTest .o3 (s.regs.get .a) 8 s)

/-- `BIT 3,(HL)`, CB 5E (rule R283). -/
def exec_bit_3_atHL (s : State) : Host.Outcome State Fault Refusal := .next (bitTest .o3 (readHl s) 12 s)

/-- `BIT 4,B`, CB 60 (rule R283). -/
def exec_bit_4_b (s : State) : Host.Outcome State Fault Refusal := .next (bitTest .o4 (s.regs.get .b) 8 s)

/-- `BIT 4,C`, CB 61 (rule R283). -/
def exec_bit_4_c (s : State) : Host.Outcome State Fault Refusal := .next (bitTest .o4 (s.regs.get .c) 8 s)

/-- `BIT 4,D`, CB 62 (rule R283). -/
def exec_bit_4_d (s : State) : Host.Outcome State Fault Refusal := .next (bitTest .o4 (s.regs.get .d) 8 s)

/-- `BIT 4,E`, CB 63 (rule R283). -/
def exec_bit_4_e (s : State) : Host.Outcome State Fault Refusal := .next (bitTest .o4 (s.regs.get .e) 8 s)

/-- `BIT 4,H`, CB 64 (rule R283). -/
def exec_bit_4_h (s : State) : Host.Outcome State Fault Refusal := .next (bitTest .o4 (s.regs.get .h) 8 s)

/-- `BIT 4,L`, CB 65 (rule R283). -/
def exec_bit_4_l (s : State) : Host.Outcome State Fault Refusal := .next (bitTest .o4 (s.regs.get .l) 8 s)

/-- `BIT 4,A`, CB 67 (rule R283). -/
def exec_bit_4_a (s : State) : Host.Outcome State Fault Refusal := .next (bitTest .o4 (s.regs.get .a) 8 s)

/-- `BIT 4,(HL)`, CB 66 (rule R283). -/
def exec_bit_4_atHL (s : State) : Host.Outcome State Fault Refusal := .next (bitTest .o4 (readHl s) 12 s)

/-- `BIT 5,B`, CB 68 (rule R283). -/
def exec_bit_5_b (s : State) : Host.Outcome State Fault Refusal := .next (bitTest .o5 (s.regs.get .b) 8 s)

/-- `BIT 5,C`, CB 69 (rule R283). -/
def exec_bit_5_c (s : State) : Host.Outcome State Fault Refusal := .next (bitTest .o5 (s.regs.get .c) 8 s)

/-- `BIT 5,D`, CB 6A (rule R283). -/
def exec_bit_5_d (s : State) : Host.Outcome State Fault Refusal := .next (bitTest .o5 (s.regs.get .d) 8 s)

/-- `BIT 5,E`, CB 6B (rule R283). -/
def exec_bit_5_e (s : State) : Host.Outcome State Fault Refusal := .next (bitTest .o5 (s.regs.get .e) 8 s)

/-- `BIT 5,H`, CB 6C (rule R283). -/
def exec_bit_5_h (s : State) : Host.Outcome State Fault Refusal := .next (bitTest .o5 (s.regs.get .h) 8 s)

/-- `BIT 5,L`, CB 6D (rule R283). -/
def exec_bit_5_l (s : State) : Host.Outcome State Fault Refusal := .next (bitTest .o5 (s.regs.get .l) 8 s)

/-- `BIT 5,A`, CB 6F (rule R283). -/
def exec_bit_5_a (s : State) : Host.Outcome State Fault Refusal := .next (bitTest .o5 (s.regs.get .a) 8 s)

/-- `BIT 5,(HL)`, CB 6E (rule R283). -/
def exec_bit_5_atHL (s : State) : Host.Outcome State Fault Refusal := .next (bitTest .o5 (readHl s) 12 s)

/-- `BIT 6,B`, CB 70 (rule R283). -/
def exec_bit_6_b (s : State) : Host.Outcome State Fault Refusal := .next (bitTest .o6 (s.regs.get .b) 8 s)

/-- `BIT 6,C`, CB 71 (rule R283). -/
def exec_bit_6_c (s : State) : Host.Outcome State Fault Refusal := .next (bitTest .o6 (s.regs.get .c) 8 s)

/-- `BIT 6,D`, CB 72 (rule R283). -/
def exec_bit_6_d (s : State) : Host.Outcome State Fault Refusal := .next (bitTest .o6 (s.regs.get .d) 8 s)

/-- `BIT 6,E`, CB 73 (rule R283). -/
def exec_bit_6_e (s : State) : Host.Outcome State Fault Refusal := .next (bitTest .o6 (s.regs.get .e) 8 s)

/-- `BIT 6,H`, CB 74 (rule R283). -/
def exec_bit_6_h (s : State) : Host.Outcome State Fault Refusal := .next (bitTest .o6 (s.regs.get .h) 8 s)

/-- `BIT 6,L`, CB 75 (rule R283). -/
def exec_bit_6_l (s : State) : Host.Outcome State Fault Refusal := .next (bitTest .o6 (s.regs.get .l) 8 s)

/-- `BIT 6,A`, CB 77 (rule R283). -/
def exec_bit_6_a (s : State) : Host.Outcome State Fault Refusal := .next (bitTest .o6 (s.regs.get .a) 8 s)

/-- `BIT 6,(HL)`, CB 76 (rule R283). -/
def exec_bit_6_atHL (s : State) : Host.Outcome State Fault Refusal := .next (bitTest .o6 (readHl s) 12 s)

/-- `BIT 7,B`, CB 78 (rule R283). -/
def exec_bit_7_b (s : State) : Host.Outcome State Fault Refusal := .next (bitTest .o7 (s.regs.get .b) 8 s)

/-- `BIT 7,C`, CB 79 (rule R283). -/
def exec_bit_7_c (s : State) : Host.Outcome State Fault Refusal := .next (bitTest .o7 (s.regs.get .c) 8 s)

/-- `BIT 7,D`, CB 7A (rule R283). -/
def exec_bit_7_d (s : State) : Host.Outcome State Fault Refusal := .next (bitTest .o7 (s.regs.get .d) 8 s)

/-- `BIT 7,E`, CB 7B (rule R283). -/
def exec_bit_7_e (s : State) : Host.Outcome State Fault Refusal := .next (bitTest .o7 (s.regs.get .e) 8 s)

/-- `BIT 7,H`, CB 7C (rule R283). -/
def exec_bit_7_h (s : State) : Host.Outcome State Fault Refusal := .next (bitTest .o7 (s.regs.get .h) 8 s)

/-- `BIT 7,L`, CB 7D (rule R283). -/
def exec_bit_7_l (s : State) : Host.Outcome State Fault Refusal := .next (bitTest .o7 (s.regs.get .l) 8 s)

/-- `BIT 7,A`, CB 7F (rule R283). -/
def exec_bit_7_a (s : State) : Host.Outcome State Fault Refusal := .next (bitTest .o7 (s.regs.get .a) 8 s)

/-- `BIT 7,(HL)`, CB 7E (rule R283). -/
def exec_bit_7_atHL (s : State) : Host.Outcome State Fault Refusal := .next (bitTest .o7 (readHl s) 12 s)

/-! ### `RES` (rule R284) -/

/-- `RES 0,B`, CB 80 (rule R284). -/
def exec_res_0_b (s : State) : Host.Outcome State Fault Refusal := .next (resReg .o0 .b s)

/-- `RES 0,C`, CB 81 (rule R284). -/
def exec_res_0_c (s : State) : Host.Outcome State Fault Refusal := .next (resReg .o0 .c s)

/-- `RES 0,D`, CB 82 (rule R284). -/
def exec_res_0_d (s : State) : Host.Outcome State Fault Refusal := .next (resReg .o0 .d s)

/-- `RES 0,E`, CB 83 (rule R284). -/
def exec_res_0_e (s : State) : Host.Outcome State Fault Refusal := .next (resReg .o0 .e s)

/-- `RES 0,H`, CB 84 (rule R284). -/
def exec_res_0_h (s : State) : Host.Outcome State Fault Refusal := .next (resReg .o0 .h s)

/-- `RES 0,L`, CB 85 (rule R284). -/
def exec_res_0_l (s : State) : Host.Outcome State Fault Refusal := .next (resReg .o0 .l s)

/-- `RES 0,A`, CB 87 (rule R284). -/
def exec_res_0_a (s : State) : Host.Outcome State Fault Refusal := .next (resReg .o0 .a s)

/-- `RES 0,(HL)`, CB 86 (rule R284). -/
def exec_res_0_atHL (s : State) : Host.Outcome State Fault Refusal := .next (resHl .o0 s)

/-- `RES 1,B`, CB 88 (rule R284). -/
def exec_res_1_b (s : State) : Host.Outcome State Fault Refusal := .next (resReg .o1 .b s)

/-- `RES 1,C`, CB 89 (rule R284). -/
def exec_res_1_c (s : State) : Host.Outcome State Fault Refusal := .next (resReg .o1 .c s)

/-- `RES 1,D`, CB 8A (rule R284). -/
def exec_res_1_d (s : State) : Host.Outcome State Fault Refusal := .next (resReg .o1 .d s)

/-- `RES 1,E`, CB 8B (rule R284). -/
def exec_res_1_e (s : State) : Host.Outcome State Fault Refusal := .next (resReg .o1 .e s)

/-- `RES 1,H`, CB 8C (rule R284). -/
def exec_res_1_h (s : State) : Host.Outcome State Fault Refusal := .next (resReg .o1 .h s)

/-- `RES 1,L`, CB 8D (rule R284). -/
def exec_res_1_l (s : State) : Host.Outcome State Fault Refusal := .next (resReg .o1 .l s)

/-- `RES 1,A`, CB 8F (rule R284). -/
def exec_res_1_a (s : State) : Host.Outcome State Fault Refusal := .next (resReg .o1 .a s)

/-- `RES 1,(HL)`, CB 8E (rule R284). -/
def exec_res_1_atHL (s : State) : Host.Outcome State Fault Refusal := .next (resHl .o1 s)

/-- `RES 2,B`, CB 90 (rule R284). -/
def exec_res_2_b (s : State) : Host.Outcome State Fault Refusal := .next (resReg .o2 .b s)

/-- `RES 2,C`, CB 91 (rule R284). -/
def exec_res_2_c (s : State) : Host.Outcome State Fault Refusal := .next (resReg .o2 .c s)

/-- `RES 2,D`, CB 92 (rule R284). -/
def exec_res_2_d (s : State) : Host.Outcome State Fault Refusal := .next (resReg .o2 .d s)

/-- `RES 2,E`, CB 93 (rule R284). -/
def exec_res_2_e (s : State) : Host.Outcome State Fault Refusal := .next (resReg .o2 .e s)

/-- `RES 2,H`, CB 94 (rule R284). -/
def exec_res_2_h (s : State) : Host.Outcome State Fault Refusal := .next (resReg .o2 .h s)

/-- `RES 2,L`, CB 95 (rule R284). -/
def exec_res_2_l (s : State) : Host.Outcome State Fault Refusal := .next (resReg .o2 .l s)

/-- `RES 2,A`, CB 97 (rule R284). -/
def exec_res_2_a (s : State) : Host.Outcome State Fault Refusal := .next (resReg .o2 .a s)

/-- `RES 2,(HL)`, CB 96 (rule R284). -/
def exec_res_2_atHL (s : State) : Host.Outcome State Fault Refusal := .next (resHl .o2 s)

/-- `RES 3,B`, CB 98 (rule R284). -/
def exec_res_3_b (s : State) : Host.Outcome State Fault Refusal := .next (resReg .o3 .b s)

/-- `RES 3,C`, CB 99 (rule R284). -/
def exec_res_3_c (s : State) : Host.Outcome State Fault Refusal := .next (resReg .o3 .c s)

/-- `RES 3,D`, CB 9A (rule R284). -/
def exec_res_3_d (s : State) : Host.Outcome State Fault Refusal := .next (resReg .o3 .d s)

/-- `RES 3,E`, CB 9B (rule R284). -/
def exec_res_3_e (s : State) : Host.Outcome State Fault Refusal := .next (resReg .o3 .e s)

/-- `RES 3,H`, CB 9C (rule R284). -/
def exec_res_3_h (s : State) : Host.Outcome State Fault Refusal := .next (resReg .o3 .h s)

/-- `RES 3,L`, CB 9D (rule R284). -/
def exec_res_3_l (s : State) : Host.Outcome State Fault Refusal := .next (resReg .o3 .l s)

/-- `RES 3,A`, CB 9F (rule R284). -/
def exec_res_3_a (s : State) : Host.Outcome State Fault Refusal := .next (resReg .o3 .a s)

/-- `RES 3,(HL)`, CB 9E (rule R284). -/
def exec_res_3_atHL (s : State) : Host.Outcome State Fault Refusal := .next (resHl .o3 s)

/-- `RES 4,B`, CB A0 (rule R284). -/
def exec_res_4_b (s : State) : Host.Outcome State Fault Refusal := .next (resReg .o4 .b s)

/-- `RES 4,C`, CB A1 (rule R284). -/
def exec_res_4_c (s : State) : Host.Outcome State Fault Refusal := .next (resReg .o4 .c s)

/-- `RES 4,D`, CB A2 (rule R284). -/
def exec_res_4_d (s : State) : Host.Outcome State Fault Refusal := .next (resReg .o4 .d s)

/-- `RES 4,E`, CB A3 (rule R284). -/
def exec_res_4_e (s : State) : Host.Outcome State Fault Refusal := .next (resReg .o4 .e s)

/-- `RES 4,H`, CB A4 (rule R284). -/
def exec_res_4_h (s : State) : Host.Outcome State Fault Refusal := .next (resReg .o4 .h s)

/-- `RES 4,L`, CB A5 (rule R284). -/
def exec_res_4_l (s : State) : Host.Outcome State Fault Refusal := .next (resReg .o4 .l s)

/-- `RES 4,A`, CB A7 (rule R284). -/
def exec_res_4_a (s : State) : Host.Outcome State Fault Refusal := .next (resReg .o4 .a s)

/-- `RES 4,(HL)`, CB A6 (rule R284). -/
def exec_res_4_atHL (s : State) : Host.Outcome State Fault Refusal := .next (resHl .o4 s)

/-- `RES 5,B`, CB A8 (rule R284). -/
def exec_res_5_b (s : State) : Host.Outcome State Fault Refusal := .next (resReg .o5 .b s)

/-- `RES 5,C`, CB A9 (rule R284). -/
def exec_res_5_c (s : State) : Host.Outcome State Fault Refusal := .next (resReg .o5 .c s)

/-- `RES 5,D`, CB AA (rule R284). -/
def exec_res_5_d (s : State) : Host.Outcome State Fault Refusal := .next (resReg .o5 .d s)

/-- `RES 5,E`, CB AB (rule R284). -/
def exec_res_5_e (s : State) : Host.Outcome State Fault Refusal := .next (resReg .o5 .e s)

/-- `RES 5,H`, CB AC (rule R284). -/
def exec_res_5_h (s : State) : Host.Outcome State Fault Refusal := .next (resReg .o5 .h s)

/-- `RES 5,L`, CB AD (rule R284). -/
def exec_res_5_l (s : State) : Host.Outcome State Fault Refusal := .next (resReg .o5 .l s)

/-- `RES 5,A`, CB AF (rule R284). -/
def exec_res_5_a (s : State) : Host.Outcome State Fault Refusal := .next (resReg .o5 .a s)

/-- `RES 5,(HL)`, CB AE (rule R284). -/
def exec_res_5_atHL (s : State) : Host.Outcome State Fault Refusal := .next (resHl .o5 s)

/-- `RES 6,B`, CB B0 (rule R284). -/
def exec_res_6_b (s : State) : Host.Outcome State Fault Refusal := .next (resReg .o6 .b s)

/-- `RES 6,C`, CB B1 (rule R284). -/
def exec_res_6_c (s : State) : Host.Outcome State Fault Refusal := .next (resReg .o6 .c s)

/-- `RES 6,D`, CB B2 (rule R284). -/
def exec_res_6_d (s : State) : Host.Outcome State Fault Refusal := .next (resReg .o6 .d s)

/-- `RES 6,E`, CB B3 (rule R284). -/
def exec_res_6_e (s : State) : Host.Outcome State Fault Refusal := .next (resReg .o6 .e s)

/-- `RES 6,H`, CB B4 (rule R284). -/
def exec_res_6_h (s : State) : Host.Outcome State Fault Refusal := .next (resReg .o6 .h s)

/-- `RES 6,L`, CB B5 (rule R284). -/
def exec_res_6_l (s : State) : Host.Outcome State Fault Refusal := .next (resReg .o6 .l s)

/-- `RES 6,A`, CB B7 (rule R284). -/
def exec_res_6_a (s : State) : Host.Outcome State Fault Refusal := .next (resReg .o6 .a s)

/-- `RES 6,(HL)`, CB B6 (rule R284). -/
def exec_res_6_atHL (s : State) : Host.Outcome State Fault Refusal := .next (resHl .o6 s)

/-- `RES 7,B`, CB B8 (rule R284). -/
def exec_res_7_b (s : State) : Host.Outcome State Fault Refusal := .next (resReg .o7 .b s)

/-- `RES 7,C`, CB B9 (rule R284). -/
def exec_res_7_c (s : State) : Host.Outcome State Fault Refusal := .next (resReg .o7 .c s)

/-- `RES 7,D`, CB BA (rule R284). -/
def exec_res_7_d (s : State) : Host.Outcome State Fault Refusal := .next (resReg .o7 .d s)

/-- `RES 7,E`, CB BB (rule R284). -/
def exec_res_7_e (s : State) : Host.Outcome State Fault Refusal := .next (resReg .o7 .e s)

/-- `RES 7,H`, CB BC (rule R284). -/
def exec_res_7_h (s : State) : Host.Outcome State Fault Refusal := .next (resReg .o7 .h s)

/-- `RES 7,L`, CB BD (rule R284). -/
def exec_res_7_l (s : State) : Host.Outcome State Fault Refusal := .next (resReg .o7 .l s)

/-- `RES 7,A`, CB BF (rule R284). -/
def exec_res_7_a (s : State) : Host.Outcome State Fault Refusal := .next (resReg .o7 .a s)

/-- `RES 7,(HL)`, CB BE (rule R284). -/
def exec_res_7_atHL (s : State) : Host.Outcome State Fault Refusal := .next (resHl .o7 s)

/-! ### `SET` (rule R285) -/

/-- `SET 0,B`, CB C0 (rule R285). -/
def exec_set_0_b (s : State) : Host.Outcome State Fault Refusal := .next (setReg .o0 .b s)

/-- `SET 0,C`, CB C1 (rule R285). -/
def exec_set_0_c (s : State) : Host.Outcome State Fault Refusal := .next (setReg .o0 .c s)

/-- `SET 0,D`, CB C2 (rule R285). -/
def exec_set_0_d (s : State) : Host.Outcome State Fault Refusal := .next (setReg .o0 .d s)

/-- `SET 0,E`, CB C3 (rule R285). -/
def exec_set_0_e (s : State) : Host.Outcome State Fault Refusal := .next (setReg .o0 .e s)

/-- `SET 0,H`, CB C4 (rule R285). -/
def exec_set_0_h (s : State) : Host.Outcome State Fault Refusal := .next (setReg .o0 .h s)

/-- `SET 0,L`, CB C5 (rule R285). -/
def exec_set_0_l (s : State) : Host.Outcome State Fault Refusal := .next (setReg .o0 .l s)

/-- `SET 0,A`, CB C7 (rule R285). -/
def exec_set_0_a (s : State) : Host.Outcome State Fault Refusal := .next (setReg .o0 .a s)

/-- `SET 0,(HL)`, CB C6 (rule R285). -/
def exec_set_0_atHL (s : State) : Host.Outcome State Fault Refusal := .next (setHl .o0 s)

/-- `SET 1,B`, CB C8 (rule R285). -/
def exec_set_1_b (s : State) : Host.Outcome State Fault Refusal := .next (setReg .o1 .b s)

/-- `SET 1,C`, CB C9 (rule R285). -/
def exec_set_1_c (s : State) : Host.Outcome State Fault Refusal := .next (setReg .o1 .c s)

/-- `SET 1,D`, CB CA (rule R285). -/
def exec_set_1_d (s : State) : Host.Outcome State Fault Refusal := .next (setReg .o1 .d s)

/-- `SET 1,E`, CB CB (rule R285). -/
def exec_set_1_e (s : State) : Host.Outcome State Fault Refusal := .next (setReg .o1 .e s)

/-- `SET 1,H`, CB CC (rule R285). -/
def exec_set_1_h (s : State) : Host.Outcome State Fault Refusal := .next (setReg .o1 .h s)

/-- `SET 1,L`, CB CD (rule R285). -/
def exec_set_1_l (s : State) : Host.Outcome State Fault Refusal := .next (setReg .o1 .l s)

/-- `SET 1,A`, CB CF (rule R285). -/
def exec_set_1_a (s : State) : Host.Outcome State Fault Refusal := .next (setReg .o1 .a s)

/-- `SET 1,(HL)`, CB CE (rule R285). -/
def exec_set_1_atHL (s : State) : Host.Outcome State Fault Refusal := .next (setHl .o1 s)

/-- `SET 2,B`, CB D0 (rule R285). -/
def exec_set_2_b (s : State) : Host.Outcome State Fault Refusal := .next (setReg .o2 .b s)

/-- `SET 2,C`, CB D1 (rule R285). -/
def exec_set_2_c (s : State) : Host.Outcome State Fault Refusal := .next (setReg .o2 .c s)

/-- `SET 2,D`, CB D2 (rule R285). -/
def exec_set_2_d (s : State) : Host.Outcome State Fault Refusal := .next (setReg .o2 .d s)

/-- `SET 2,E`, CB D3 (rule R285). -/
def exec_set_2_e (s : State) : Host.Outcome State Fault Refusal := .next (setReg .o2 .e s)

/-- `SET 2,H`, CB D4 (rule R285). -/
def exec_set_2_h (s : State) : Host.Outcome State Fault Refusal := .next (setReg .o2 .h s)

/-- `SET 2,L`, CB D5 (rule R285). -/
def exec_set_2_l (s : State) : Host.Outcome State Fault Refusal := .next (setReg .o2 .l s)

/-- `SET 2,A`, CB D7 (rule R285). -/
def exec_set_2_a (s : State) : Host.Outcome State Fault Refusal := .next (setReg .o2 .a s)

/-- `SET 2,(HL)`, CB D6 (rule R285). -/
def exec_set_2_atHL (s : State) : Host.Outcome State Fault Refusal := .next (setHl .o2 s)

/-- `SET 3,B`, CB D8 (rule R285). -/
def exec_set_3_b (s : State) : Host.Outcome State Fault Refusal := .next (setReg .o3 .b s)

/-- `SET 3,C`, CB D9 (rule R285). -/
def exec_set_3_c (s : State) : Host.Outcome State Fault Refusal := .next (setReg .o3 .c s)

/-- `SET 3,D`, CB DA (rule R285). -/
def exec_set_3_d (s : State) : Host.Outcome State Fault Refusal := .next (setReg .o3 .d s)

/-- `SET 3,E`, CB DB (rule R285). -/
def exec_set_3_e (s : State) : Host.Outcome State Fault Refusal := .next (setReg .o3 .e s)

/-- `SET 3,H`, CB DC (rule R285). -/
def exec_set_3_h (s : State) : Host.Outcome State Fault Refusal := .next (setReg .o3 .h s)

/-- `SET 3,L`, CB DD (rule R285). -/
def exec_set_3_l (s : State) : Host.Outcome State Fault Refusal := .next (setReg .o3 .l s)

/-- `SET 3,A`, CB DF (rule R285). -/
def exec_set_3_a (s : State) : Host.Outcome State Fault Refusal := .next (setReg .o3 .a s)

/-- `SET 3,(HL)`, CB DE (rule R285). -/
def exec_set_3_atHL (s : State) : Host.Outcome State Fault Refusal := .next (setHl .o3 s)

/-- `SET 4,B`, CB E0 (rule R285). -/
def exec_set_4_b (s : State) : Host.Outcome State Fault Refusal := .next (setReg .o4 .b s)

/-- `SET 4,C`, CB E1 (rule R285). -/
def exec_set_4_c (s : State) : Host.Outcome State Fault Refusal := .next (setReg .o4 .c s)

/-- `SET 4,D`, CB E2 (rule R285). -/
def exec_set_4_d (s : State) : Host.Outcome State Fault Refusal := .next (setReg .o4 .d s)

/-- `SET 4,E`, CB E3 (rule R285). -/
def exec_set_4_e (s : State) : Host.Outcome State Fault Refusal := .next (setReg .o4 .e s)

/-- `SET 4,H`, CB E4 (rule R285). -/
def exec_set_4_h (s : State) : Host.Outcome State Fault Refusal := .next (setReg .o4 .h s)

/-- `SET 4,L`, CB E5 (rule R285). -/
def exec_set_4_l (s : State) : Host.Outcome State Fault Refusal := .next (setReg .o4 .l s)

/-- `SET 4,A`, CB E7 (rule R285). -/
def exec_set_4_a (s : State) : Host.Outcome State Fault Refusal := .next (setReg .o4 .a s)

/-- `SET 4,(HL)`, CB E6 (rule R285). -/
def exec_set_4_atHL (s : State) : Host.Outcome State Fault Refusal := .next (setHl .o4 s)

/-- `SET 5,B`, CB E8 (rule R285). -/
def exec_set_5_b (s : State) : Host.Outcome State Fault Refusal := .next (setReg .o5 .b s)

/-- `SET 5,C`, CB E9 (rule R285). -/
def exec_set_5_c (s : State) : Host.Outcome State Fault Refusal := .next (setReg .o5 .c s)

/-- `SET 5,D`, CB EA (rule R285). -/
def exec_set_5_d (s : State) : Host.Outcome State Fault Refusal := .next (setReg .o5 .d s)

/-- `SET 5,E`, CB EB (rule R285). -/
def exec_set_5_e (s : State) : Host.Outcome State Fault Refusal := .next (setReg .o5 .e s)

/-- `SET 5,H`, CB EC (rule R285). -/
def exec_set_5_h (s : State) : Host.Outcome State Fault Refusal := .next (setReg .o5 .h s)

/-- `SET 5,L`, CB ED (rule R285). -/
def exec_set_5_l (s : State) : Host.Outcome State Fault Refusal := .next (setReg .o5 .l s)

/-- `SET 5,A`, CB EF (rule R285). -/
def exec_set_5_a (s : State) : Host.Outcome State Fault Refusal := .next (setReg .o5 .a s)

/-- `SET 5,(HL)`, CB EE (rule R285). -/
def exec_set_5_atHL (s : State) : Host.Outcome State Fault Refusal := .next (setHl .o5 s)

/-- `SET 6,B`, CB F0 (rule R285). -/
def exec_set_6_b (s : State) : Host.Outcome State Fault Refusal := .next (setReg .o6 .b s)

/-- `SET 6,C`, CB F1 (rule R285). -/
def exec_set_6_c (s : State) : Host.Outcome State Fault Refusal := .next (setReg .o6 .c s)

/-- `SET 6,D`, CB F2 (rule R285). -/
def exec_set_6_d (s : State) : Host.Outcome State Fault Refusal := .next (setReg .o6 .d s)

/-- `SET 6,E`, CB F3 (rule R285). -/
def exec_set_6_e (s : State) : Host.Outcome State Fault Refusal := .next (setReg .o6 .e s)

/-- `SET 6,H`, CB F4 (rule R285). -/
def exec_set_6_h (s : State) : Host.Outcome State Fault Refusal := .next (setReg .o6 .h s)

/-- `SET 6,L`, CB F5 (rule R285). -/
def exec_set_6_l (s : State) : Host.Outcome State Fault Refusal := .next (setReg .o6 .l s)

/-- `SET 6,A`, CB F7 (rule R285). -/
def exec_set_6_a (s : State) : Host.Outcome State Fault Refusal := .next (setReg .o6 .a s)

/-- `SET 6,(HL)`, CB F6 (rule R285). -/
def exec_set_6_atHL (s : State) : Host.Outcome State Fault Refusal := .next (setHl .o6 s)

/-- `SET 7,B`, CB F8 (rule R285). -/
def exec_set_7_b (s : State) : Host.Outcome State Fault Refusal := .next (setReg .o7 .b s)

/-- `SET 7,C`, CB F9 (rule R285). -/
def exec_set_7_c (s : State) : Host.Outcome State Fault Refusal := .next (setReg .o7 .c s)

/-- `SET 7,D`, CB FA (rule R285). -/
def exec_set_7_d (s : State) : Host.Outcome State Fault Refusal := .next (setReg .o7 .d s)

/-- `SET 7,E`, CB FB (rule R285). -/
def exec_set_7_e (s : State) : Host.Outcome State Fault Refusal := .next (setReg .o7 .e s)

/-- `SET 7,H`, CB FC (rule R285). -/
def exec_set_7_h (s : State) : Host.Outcome State Fault Refusal := .next (setReg .o7 .h s)

/-- `SET 7,L`, CB FD (rule R285). -/
def exec_set_7_l (s : State) : Host.Outcome State Fault Refusal := .next (setReg .o7 .l s)

/-- `SET 7,A`, CB FF (rule R285). -/
def exec_set_7_a (s : State) : Host.Outcome State Fault Refusal := .next (setReg .o7 .a s)

/-- `SET 7,(HL)`, CB FE (rule R285). -/
def exec_set_7_atHL (s : State) : Host.Outcome State Fault Refusal := .next (setHl .o7 s)

end Sys2Proof.Machine
end

