-- ==== Sys2Proof/Machine/Control.lean ====
section
/-! DEFINITION. Control transfer (`45_control.md`). `PC` is past the whole instruction when a meaning runs, so a
condition that is false leaves it there (rule R312). -/

namespace Sys2Proof.Machine

/-! ### Shared operations -/

/-- `PC <- a` in `k` cycles (rules R301, R303). -/
def jumpTo (a : Word) (k : Nat) (s : State) : State := (s.jump a).spend k

/-- The target of `JR`: `AddRel(PC, e)`, its flags discarded (rules R304, R305). -/
def relTarget (e : Byte) (s : State) : Word := (addRel s.regs.pc e).val

/-- `Push16(PC); PC <- a` in `k` cycles (rules R306, R311). -/
def callTo (a : Word) (k : Nat) (s : State) : State := ((push16 s s.regs.pc).jump a).spend k

/-- `PC <- Pop16()` in `k` cycles (rules R308, R309). -/
def returnTo (k : Nat) (s : State) : State := (s.withRegs { popRegs s.regs with pc := popVal s }).spend k

/-- A conditional form: the taken effect, or only its not-taken count (rule R312). -/
def ifCond (cc : Cond) (taken : State → State) (k : Nat) (s : State) : State :=
  if s.regs.cond cc then taken s else s.spend k

/-- `JP cc,a16` (rule R302). -/
def jpCond (cc : Cond) (a : Word) (s : State) : State := ifCond cc (jumpTo a 16) 12 s

/-- `JR cc,e8` (rule R305). -/
def jrCond (cc : Cond) (e : Byte) (s : State) : State := ifCond cc (jumpTo (relTarget e s) 12) 8 s

/-- `CALL cc,a16` (rule R307). -/
def callCond (cc : Cond) (a : Word) (s : State) : State := ifCond cc (callTo a 24) 12 s

/-- `RET cc` (rule R309). -/
def retCond (cc : Cond) (s : State) : State := ifCond cc (returnTo 20) 8 s

/-- `RST n`: the target is `y * 8` (rule R311). -/
def restart (y : Oct) (s : State) : State := callTo (BitVec.ofNat 16 (octNat y * 8)) 16 s

/-! ### The instructions -/

/-- `JP a16`, C3 (rule R301). -/
def exec_jp_a16 (nn : Word) (s : State) : Host.Outcome State Fault Refusal := .next (jumpTo nn 16 s)

/-- `JP NZ,a16`, C2 (rule R302). -/
def exec_jp_nz_a16 (nn : Word) (s : State) : Host.Outcome State Fault Refusal := .next (jpCond .nz nn s)

/-- `JP Z,a16`, CA (rule R302). -/
def exec_jp_z_a16 (nn : Word) (s : State) : Host.Outcome State Fault Refusal := .next (jpCond .z nn s)

/-- `JP NC,a16`, D2 (rule R302). -/
def exec_jp_nc_a16 (nn : Word) (s : State) : Host.Outcome State Fault Refusal := .next (jpCond .nc nn s)

/-- `JP C,a16`, DA (rule R302). -/
def exec_jp_c_a16 (nn : Word) (s : State) : Host.Outcome State Fault Refusal := .next (jpCond .c nn s)

/-- `JP HL`, E9 (rule R303). -/
def exec_jp_hl (s : State) : Host.Outcome State Fault Refusal := .next (jumpTo s.regs.hl 4 s)

/-- `JR e8`, 18 (rule R304). -/
def exec_jr_e8 (e : Byte) (s : State) : Host.Outcome State Fault Refusal := .next (jumpTo (relTarget e s) 12 s)

/-- `JR NZ,e8`, 20 (rule R305). -/
def exec_jr_nz_e8 (e : Byte) (s : State) : Host.Outcome State Fault Refusal := .next (jrCond .nz e s)

/-- `JR Z,e8`, 28 (rule R305). -/
def exec_jr_z_e8 (e : Byte) (s : State) : Host.Outcome State Fault Refusal := .next (jrCond .z e s)

/-- `JR NC,e8`, 30 (rule R305). -/
def exec_jr_nc_e8 (e : Byte) (s : State) : Host.Outcome State Fault Refusal := .next (jrCond .nc e s)

/-- `JR C,e8`, 38 (rule R305). -/
def exec_jr_c_e8 (e : Byte) (s : State) : Host.Outcome State Fault Refusal := .next (jrCond .c e s)

/-- `CALL a16`, CD (rule R306). -/
def exec_call_a16 (nn : Word) (s : State) : Host.Outcome State Fault Refusal := .next (callTo nn 24 s)

/-- `CALL NZ,a16`, C4 (rule R307). -/
def exec_call_nz_a16 (nn : Word) (s : State) : Host.Outcome State Fault Refusal := .next (callCond .nz nn s)

/-- `CALL Z,a16`, CC (rule R307). -/
def exec_call_z_a16 (nn : Word) (s : State) : Host.Outcome State Fault Refusal := .next (callCond .z nn s)

/-- `CALL NC,a16`, D4 (rule R307). -/
def exec_call_nc_a16 (nn : Word) (s : State) : Host.Outcome State Fault Refusal := .next (callCond .nc nn s)

/-- `CALL C,a16`, DC (rule R307). -/
def exec_call_c_a16 (nn : Word) (s : State) : Host.Outcome State Fault Refusal := .next (callCond .c nn s)

/-- `RET`, C9 (rule R308). -/
def exec_ret (s : State) : Host.Outcome State Fault Refusal := .next (returnTo 16 s)

/-- `RET NZ`, C0 (rule R309). -/
def exec_ret_nz (s : State) : Host.Outcome State Fault Refusal := .next (retCond .nz s)

/-- `RET Z`, C8 (rule R309). -/
def exec_ret_z (s : State) : Host.Outcome State Fault Refusal := .next (retCond .z s)

/-- `RET NC`, D0 (rule R309). -/
def exec_ret_nc (s : State) : Host.Outcome State Fault Refusal := .next (retCond .nc s)

/-- `RET C`, D8 (rule R309). -/
def exec_ret_c (s : State) : Host.Outcome State Fault Refusal := .next (retCond .c s)

/-- `RETI`, D9 (rule R310). -/
def exec_reti (s : State) : Host.Outcome State Fault Refusal := .next ((returnFromInterrupt s).spend 16)

/-- `RST 00H`, C7 (rule R311). -/
def exec_rst_00h (s : State) : Host.Outcome State Fault Refusal := .next (restart .o0 s)

/-- `RST 08H`, CF (rule R311). -/
def exec_rst_08h (s : State) : Host.Outcome State Fault Refusal := .next (restart .o1 s)

/-- `RST 10H`, D7 (rule R311). -/
def exec_rst_10h (s : State) : Host.Outcome State Fault Refusal := .next (restart .o2 s)

/-- `RST 18H`, DF (rule R311). -/
def exec_rst_18h (s : State) : Host.Outcome State Fault Refusal := .next (restart .o3 s)

/-- `RST 20H`, E7 (rule R311). -/
def exec_rst_20h (s : State) : Host.Outcome State Fault Refusal := .next (restart .o4 s)

/-- `RST 28H`, EF (rule R311). -/
def exec_rst_28h (s : State) : Host.Outcome State Fault Refusal := .next (restart .o5 s)

/-- `RST 30H`, F7 (rule R311). -/
def exec_rst_30h (s : State) : Host.Outcome State Fault Refusal := .next (restart .o6 s)

/-- `RST 38H`, FF (rule R311). -/
def exec_rst_38h (s : State) : Host.Outcome State Fault Refusal := .next (restart .o7 s)

end Sys2Proof.Machine
end

