-- ==== Sys2Proof/Machine/Load16.lean ====
section
/-! DEFINITION. 16-bit loads and the stack (`41_load16_stack.md`). -/

namespace Sys2Proof.Machine

/-! ### Shared operations -/

/-- `rp[p] <- d16` (rule R201). -/
def ldPair (p : Rp) (nn : Word) (s : State) : State := (s.withRegs (s.regs.setRp p nn)).spend 12

/-- `MemWrite(a, 2, SP)` (rule R202). -/
def ldMemSp (a : Word) (s : State) : State := (memWrite16 s a s.regs.sp).spend 20

/-- `SP <- HL` (rule R203). -/
def ldSpHl (s : State) : State := (s.withRegs { s.regs with sp := s.regs.hl }).spend 8

/-- `HL <- SP + e`, `flags(0, 0, h, c)` by `AddRel` (rule R204). -/
def ldHlSp (e : Byte) (s : State) : State :=
  let r := addRel s.regs.sp e
  (s.withRegs { s.regs.setHl r.val with f := flags false false r.half r.carry }).spend 12

/-- `Push16(rp2[p])` (rule R205). -/
def pushPair (p : Rp2) (s : State) : State := (push16 s (s.regs.getRp2 p)).spend 16

/-- `rp2[p] <- Pop16()` (rule R206). -/
def popPair (p : Rp2) (s : State) : State := (s.withRegs ((popRegs s.regs).setRp2 p (popVal s))).spend 12

/-! ### The instructions -/

/-- `LD BC,d16`, 01 (rule R201). -/
def exec_ld_bc_d16 (nn : Word) (s : State) : Host.Outcome State Fault Refusal := .next (ldPair .bc nn s)

/-- `LD DE,d16`, 11 (rule R201). -/
def exec_ld_de_d16 (nn : Word) (s : State) : Host.Outcome State Fault Refusal := .next (ldPair .de nn s)

/-- `LD HL,d16`, 21 (rule R201). -/
def exec_ld_hl_d16 (nn : Word) (s : State) : Host.Outcome State Fault Refusal := .next (ldPair .hl nn s)

/-- `LD SP,d16`, 31 (rule R201). -/
def exec_ld_sp_d16 (nn : Word) (s : State) : Host.Outcome State Fault Refusal := .next (ldPair .sp nn s)

/-- `LD (a16),SP`, 08 (rule R202). -/
def exec_ld_atA16_sp (nn : Word) (s : State) : Host.Outcome State Fault Refusal := .next (ldMemSp nn s)

/-- `LD SP,HL`, F9 (rule R203). -/
def exec_ld_sp_hl (s : State) : Host.Outcome State Fault Refusal := .next (ldSpHl s)

/-- `LD HL,SP+e8`, F8 (rule R204). -/
def exec_ld_hl_spe8 (e : Byte) (s : State) : Host.Outcome State Fault Refusal := .next (ldHlSp e s)

/-- `PUSH BC`, C5 (rule R205). -/
def exec_push_bc (s : State) : Host.Outcome State Fault Refusal := .next (pushPair .bc s)

/-- `PUSH DE`, D5 (rule R205). -/
def exec_push_de (s : State) : Host.Outcome State Fault Refusal := .next (pushPair .de s)

/-- `PUSH HL`, E5 (rule R205). -/
def exec_push_hl (s : State) : Host.Outcome State Fault Refusal := .next (pushPair .hl s)

/-- `PUSH AF`, F5 (rule R205). -/
def exec_push_af (s : State) : Host.Outcome State Fault Refusal := .next (pushPair .af s)

/-- `POP BC`, C1 (rule R206). -/
def exec_pop_bc (s : State) : Host.Outcome State Fault Refusal := .next (popPair .bc s)

/-- `POP DE`, D1 (rule R206). -/
def exec_pop_de (s : State) : Host.Outcome State Fault Refusal := .next (popPair .de s)

/-- `POP HL`, E1 (rule R206). -/
def exec_pop_hl (s : State) : Host.Outcome State Fault Refusal := .next (popPair .hl s)

/-- `POP AF`, F1 (rule R206). -/
def exec_pop_af (s : State) : Host.Outcome State Fault Refusal := .next (popPair .af s)

end Sys2Proof.Machine
end

