-- ==== Sys2Proof/Machine/Load8.lean ====
section
/-! DEFINITION. 8-bit loads and stores (`40_load8.md`). No instruction here writes a flag. -/

namespace Sys2Proof.Machine

/-! ### Shared operations -/

/-- `r8[y] <- r8[z]` (rule R171). -/
def ldRegReg (y z : Reg8) (s : State) : State := (s.withRegs (s.regs.set y (s.regs.get z))).spend 4

/-- `r8[y] <- d8` (rule R172). -/
def ldRegImm (y : Reg8) (n : Byte) (s : State) : State := (s.withRegs (s.regs.set y n)).spend 8

/-- `r8[y] <- MemRead(a, 1)` in `k` cycles (rules R173, R176, R177, R180, R182, R184). -/
def ldRegMem (y : Reg8) (a : Word) (k : Nat) (s : State) : State :=
  (s.withRegs (s.regs.set y (memRead s a))).spend k

/-- `MemWrite(a, 1, v)` in `k` cycles (rules R174, R175, R178, R179, R181, R183, R185). -/
def ldMem (a : Word) (v : Byte) (k : Nat) (s : State) : State := (memWrite s a v).spend k

/-- `MemWrite(HL, 1, A); HL <- HL + d` (rules R186, R188). -/
def ldHlStep (d : Word) (s : State) : State :=
  let s1 := memWrite s s.regs.hl s.regs.a
  (s1.withRegs (s1.regs.setHl (s1.regs.hl + d))).spend 8

/-- `A <- MemRead(HL, 1); HL <- HL + d` (rules R187, R189). -/
def ldAHlStep (d : Word) (s : State) : State :=
  (s.withRegs ({ s.regs with a := memRead s s.regs.hl }.setHl (s.regs.hl + d))).spend 8

/-! ### `LD r,r'` (rule R171) -/

/-- `LD B,B`, 40 (rule R171). -/
def exec_ld_b_b (s : State) : Host.Outcome State Fault Refusal := .next (ldRegReg .b .b s)

/-- `LD B,C`, 41 (rule R171). -/
def exec_ld_b_c (s : State) : Host.Outcome State Fault Refusal := .next (ldRegReg .b .c s)

/-- `LD B,D`, 42 (rule R171). -/
def exec_ld_b_d (s : State) : Host.Outcome State Fault Refusal := .next (ldRegReg .b .d s)

/-- `LD B,E`, 43 (rule R171). -/
def exec_ld_b_e (s : State) : Host.Outcome State Fault Refusal := .next (ldRegReg .b .e s)

/-- `LD B,H`, 44 (rule R171). -/
def exec_ld_b_h (s : State) : Host.Outcome State Fault Refusal := .next (ldRegReg .b .h s)

/-- `LD B,L`, 45 (rule R171). -/
def exec_ld_b_l (s : State) : Host.Outcome State Fault Refusal := .next (ldRegReg .b .l s)

/-- `LD B,A`, 47 (rule R171). -/
def exec_ld_b_a (s : State) : Host.Outcome State Fault Refusal := .next (ldRegReg .b .a s)

/-- `LD C,B`, 48 (rule R171). -/
def exec_ld_c_b (s : State) : Host.Outcome State Fault Refusal := .next (ldRegReg .c .b s)

/-- `LD C,C`, 49 (rule R171). -/
def exec_ld_c_c (s : State) : Host.Outcome State Fault Refusal := .next (ldRegReg .c .c s)

/-- `LD C,D`, 4A (rule R171). -/
def exec_ld_c_d (s : State) : Host.Outcome State Fault Refusal := .next (ldRegReg .c .d s)

/-- `LD C,E`, 4B (rule R171). -/
def exec_ld_c_e (s : State) : Host.Outcome State Fault Refusal := .next (ldRegReg .c .e s)

/-- `LD C,H`, 4C (rule R171). -/
def exec_ld_c_h (s : State) : Host.Outcome State Fault Refusal := .next (ldRegReg .c .h s)

/-- `LD C,L`, 4D (rule R171). -/
def exec_ld_c_l (s : State) : Host.Outcome State Fault Refusal := .next (ldRegReg .c .l s)

/-- `LD C,A`, 4F (rule R171). -/
def exec_ld_c_a (s : State) : Host.Outcome State Fault Refusal := .next (ldRegReg .c .a s)

/-- `LD D,B`, 50 (rule R171). -/
def exec_ld_d_b (s : State) : Host.Outcome State Fault Refusal := .next (ldRegReg .d .b s)

/-- `LD D,C`, 51 (rule R171). -/
def exec_ld_d_c (s : State) : Host.Outcome State Fault Refusal := .next (ldRegReg .d .c s)

/-- `LD D,D`, 52 (rule R171). -/
def exec_ld_d_d (s : State) : Host.Outcome State Fault Refusal := .next (ldRegReg .d .d s)

/-- `LD D,E`, 53 (rule R171). -/
def exec_ld_d_e (s : State) : Host.Outcome State Fault Refusal := .next (ldRegReg .d .e s)

/-- `LD D,H`, 54 (rule R171). -/
def exec_ld_d_h (s : State) : Host.Outcome State Fault Refusal := .next (ldRegReg .d .h s)

/-- `LD D,L`, 55 (rule R171). -/
def exec_ld_d_l (s : State) : Host.Outcome State Fault Refusal := .next (ldRegReg .d .l s)

/-- `LD D,A`, 57 (rule R171). -/
def exec_ld_d_a (s : State) : Host.Outcome State Fault Refusal := .next (ldRegReg .d .a s)

/-- `LD E,B`, 58 (rule R171). -/
def exec_ld_e_b (s : State) : Host.Outcome State Fault Refusal := .next (ldRegReg .e .b s)

/-- `LD E,C`, 59 (rule R171). -/
def exec_ld_e_c (s : State) : Host.Outcome State Fault Refusal := .next (ldRegReg .e .c s)

/-- `LD E,D`, 5A (rule R171). -/
def exec_ld_e_d (s : State) : Host.Outcome State Fault Refusal := .next (ldRegReg .e .d s)

/-- `LD E,E`, 5B (rule R171). -/
def exec_ld_e_e (s : State) : Host.Outcome State Fault Refusal := .next (ldRegReg .e .e s)

/-- `LD E,H`, 5C (rule R171). -/
def exec_ld_e_h (s : State) : Host.Outcome State Fault Refusal := .next (ldRegReg .e .h s)

/-- `LD E,L`, 5D (rule R171). -/
def exec_ld_e_l (s : State) : Host.Outcome State Fault Refusal := .next (ldRegReg .e .l s)

/-- `LD E,A`, 5F (rule R171). -/
def exec_ld_e_a (s : State) : Host.Outcome State Fault Refusal := .next (ldRegReg .e .a s)

/-- `LD H,B`, 60 (rule R171). -/
def exec_ld_h_b (s : State) : Host.Outcome State Fault Refusal := .next (ldRegReg .h .b s)

/-- `LD H,C`, 61 (rule R171). -/
def exec_ld_h_c (s : State) : Host.Outcome State Fault Refusal := .next (ldRegReg .h .c s)

/-- `LD H,D`, 62 (rule R171). -/
def exec_ld_h_d (s : State) : Host.Outcome State Fault Refusal := .next (ldRegReg .h .d s)

/-- `LD H,E`, 63 (rule R171). -/
def exec_ld_h_e (s : State) : Host.Outcome State Fault Refusal := .next (ldRegReg .h .e s)

/-- `LD H,H`, 64 (rule R171). -/
def exec_ld_h_h (s : State) : Host.Outcome State Fault Refusal := .next (ldRegReg .h .h s)

/-- `LD H,L`, 65 (rule R171). -/
def exec_ld_h_l (s : State) : Host.Outcome State Fault Refusal := .next (ldRegReg .h .l s)

/-- `LD H,A`, 67 (rule R171). -/
def exec_ld_h_a (s : State) : Host.Outcome State Fault Refusal := .next (ldRegReg .h .a s)

/-- `LD L,B`, 68 (rule R171). -/
def exec_ld_l_b (s : State) : Host.Outcome State Fault Refusal := .next (ldRegReg .l .b s)

/-- `LD L,C`, 69 (rule R171). -/
def exec_ld_l_c (s : State) : Host.Outcome State Fault Refusal := .next (ldRegReg .l .c s)

/-- `LD L,D`, 6A (rule R171). -/
def exec_ld_l_d (s : State) : Host.Outcome State Fault Refusal := .next (ldRegReg .l .d s)

/-- `LD L,E`, 6B (rule R171). -/
def exec_ld_l_e (s : State) : Host.Outcome State Fault Refusal := .next (ldRegReg .l .e s)

/-- `LD L,H`, 6C (rule R171). -/
def exec_ld_l_h (s : State) : Host.Outcome State Fault Refusal := .next (ldRegReg .l .h s)

/-- `LD L,L`, 6D (rule R171). -/
def exec_ld_l_l (s : State) : Host.Outcome State Fault Refusal := .next (ldRegReg .l .l s)

/-- `LD L,A`, 6F (rule R171). -/
def exec_ld_l_a (s : State) : Host.Outcome State Fault Refusal := .next (ldRegReg .l .a s)

/-- `LD A,B`, 78 (rule R171). -/
def exec_ld_a_b (s : State) : Host.Outcome State Fault Refusal := .next (ldRegReg .a .b s)

/-- `LD A,C`, 79 (rule R171). -/
def exec_ld_a_c (s : State) : Host.Outcome State Fault Refusal := .next (ldRegReg .a .c s)

/-- `LD A,D`, 7A (rule R171). -/
def exec_ld_a_d (s : State) : Host.Outcome State Fault Refusal := .next (ldRegReg .a .d s)

/-- `LD A,E`, 7B (rule R171). -/
def exec_ld_a_e (s : State) : Host.Outcome State Fault Refusal := .next (ldRegReg .a .e s)

/-- `LD A,H`, 7C (rule R171). -/
def exec_ld_a_h (s : State) : Host.Outcome State Fault Refusal := .next (ldRegReg .a .h s)

/-- `LD A,L`, 7D (rule R171). -/
def exec_ld_a_l (s : State) : Host.Outcome State Fault Refusal := .next (ldRegReg .a .l s)

/-- `LD A,A`, 7F (rule R171). -/
def exec_ld_a_a (s : State) : Host.Outcome State Fault Refusal := .next (ldRegReg .a .a s)

/-! ### `LD r,d8` (rule R172) -/

/-- `LD B,d8`, 06 (rule R172). -/
def exec_ld_b_d8 (n : Byte) (s : State) : Host.Outcome State Fault Refusal := .next (ldRegImm .b n s)

/-- `LD C,d8`, 0E (rule R172). -/
def exec_ld_c_d8 (n : Byte) (s : State) : Host.Outcome State Fault Refusal := .next (ldRegImm .c n s)

/-- `LD D,d8`, 16 (rule R172). -/
def exec_ld_d_d8 (n : Byte) (s : State) : Host.Outcome State Fault Refusal := .next (ldRegImm .d n s)

/-- `LD E,d8`, 1E (rule R172). -/
def exec_ld_e_d8 (n : Byte) (s : State) : Host.Outcome State Fault Refusal := .next (ldRegImm .e n s)

/-- `LD H,d8`, 26 (rule R172). -/
def exec_ld_h_d8 (n : Byte) (s : State) : Host.Outcome State Fault Refusal := .next (ldRegImm .h n s)

/-- `LD L,d8`, 2E (rule R172). -/
def exec_ld_l_d8 (n : Byte) (s : State) : Host.Outcome State Fault Refusal := .next (ldRegImm .l n s)

/-- `LD A,d8`, 3E (rule R172). -/
def exec_ld_a_d8 (n : Byte) (s : State) : Host.Outcome State Fault Refusal := .next (ldRegImm .a n s)

/-! ### `LD r,(HL)` (rule R173) -/

/-- `LD B,(HL)`, 46 (rule R173). -/
def exec_ld_b_atHL (s : State) : Host.Outcome State Fault Refusal := .next (ldRegMem .b s.regs.hl 8 s)

/-- `LD C,(HL)`, 4E (rule R173). -/
def exec_ld_c_atHL (s : State) : Host.Outcome State Fault Refusal := .next (ldRegMem .c s.regs.hl 8 s)

/-- `LD D,(HL)`, 56 (rule R173). -/
def exec_ld_d_atHL (s : State) : Host.Outcome State Fault Refusal := .next (ldRegMem .d s.regs.hl 8 s)

/-- `LD E,(HL)`, 5E (rule R173). -/
def exec_ld_e_atHL (s : State) : Host.Outcome State Fault Refusal := .next (ldRegMem .e s.regs.hl 8 s)

/-- `LD H,(HL)`, 66 (rule R173). -/
def exec_ld_h_atHL (s : State) : Host.Outcome State Fault Refusal := .next (ldRegMem .h s.regs.hl 8 s)

/-- `LD L,(HL)`, 6E (rule R173). -/
def exec_ld_l_atHL (s : State) : Host.Outcome State Fault Refusal := .next (ldRegMem .l s.regs.hl 8 s)

/-- `LD A,(HL)`, 7E (rule R173). -/
def exec_ld_a_atHL (s : State) : Host.Outcome State Fault Refusal := .next (ldRegMem .a s.regs.hl 8 s)

/-! ### `LD (HL),r` (rule R174) and `LD (HL),d8` (rule R175) -/

/-- `LD (HL),B`, 70 (rule R174). -/
def exec_ld_atHL_b (s : State) : Host.Outcome State Fault Refusal := .next (ldMem s.regs.hl (s.regs.get .b) 8 s)

/-- `LD (HL),C`, 71 (rule R174). -/
def exec_ld_atHL_c (s : State) : Host.Outcome State Fault Refusal := .next (ldMem s.regs.hl (s.regs.get .c) 8 s)

/-- `LD (HL),D`, 72 (rule R174). -/
def exec_ld_atHL_d (s : State) : Host.Outcome State Fault Refusal := .next (ldMem s.regs.hl (s.regs.get .d) 8 s)

/-- `LD (HL),E`, 73 (rule R174). -/
def exec_ld_atHL_e (s : State) : Host.Outcome State Fault Refusal := .next (ldMem s.regs.hl (s.regs.get .e) 8 s)

/-- `LD (HL),H`, 74 (rule R174). -/
def exec_ld_atHL_h (s : State) : Host.Outcome State Fault Refusal := .next (ldMem s.regs.hl (s.regs.get .h) 8 s)

/-- `LD (HL),L`, 75 (rule R174). -/
def exec_ld_atHL_l (s : State) : Host.Outcome State Fault Refusal := .next (ldMem s.regs.hl (s.regs.get .l) 8 s)

/-- `LD (HL),A`, 77 (rule R174). -/
def exec_ld_atHL_a (s : State) : Host.Outcome State Fault Refusal := .next (ldMem s.regs.hl (s.regs.get .a) 8 s)

/-- `LD (HL),d8`, 36 (rule R175). -/
def exec_ld_atHL_d8 (n : Byte) (s : State) : Host.Outcome State Fault Refusal := .next (ldMem s.regs.hl n 12 s)

/-! ### Through `BC`, `DE`, an absolute address, the page (rules R176 to R185) -/

/-- `LD A,(BC)`, 0A (rule R176). -/
def exec_ld_a_atBC (s : State) : Host.Outcome State Fault Refusal := .next (ldRegMem .a s.regs.bc 8 s)

/-- `LD A,(DE)`, 1A (rule R177). -/
def exec_ld_a_atDE (s : State) : Host.Outcome State Fault Refusal := .next (ldRegMem .a s.regs.de 8 s)

/-- `LD (BC),A`, 02 (rule R178). -/
def exec_ld_atBC_a (s : State) : Host.Outcome State Fault Refusal := .next (ldMem s.regs.bc s.regs.a 8 s)

/-- `LD (DE),A`, 12 (rule R179). -/
def exec_ld_atDE_a (s : State) : Host.Outcome State Fault Refusal := .next (ldMem s.regs.de s.regs.a 8 s)

/-- `LD A,(a16)`, FA (rule R180). -/
def exec_ld_a_atA16 (nn : Word) (s : State) : Host.Outcome State Fault Refusal := .next (ldRegMem .a nn 16 s)

/-- `LD (a16),A`, EA (rule R181). -/
def exec_ld_atA16_a (nn : Word) (s : State) : Host.Outcome State Fault Refusal := .next (ldMem nn s.regs.a 16 s)

/-- `LDH A,(a8)`, F0 (rule R182). -/
def exec_ldh_a_atA8 (n : Byte) (s : State) : Host.Outcome State Fault Refusal := .next (ldRegMem .a (pageAddr n) 12 s)

/-- `LDH (a8),A`, E0 (rule R183). -/
def exec_ldh_atA8_a (n : Byte) (s : State) : Host.Outcome State Fault Refusal := .next (ldMem (pageAddr n) s.regs.a 12 s)

/-- `LD A,(C)`, F2 (rule R184). -/
def exec_ld_a_atC (s : State) : Host.Outcome State Fault Refusal := .next (ldRegMem .a (pageAddr s.regs.c) 8 s)

/-- `LD (C),A`, E2 (rule R185). -/
def exec_ld_atC_a (s : State) : Host.Outcome State Fault Refusal := .next (ldMem (pageAddr s.regs.c) s.regs.a 8 s)

/-! ### `HL` stepped up or down (rules R186 to R189) -/

/-- `LD (HL+),A`, 22 (rule R186). -/
def exec_ld_atHLi_a (s : State) : Host.Outcome State Fault Refusal := .next (ldHlStep 1#16 s)

/-- `LD A,(HL+)`, 2A (rule R187). -/
def exec_ld_a_atHLi (s : State) : Host.Outcome State Fault Refusal := .next (ldAHlStep 1#16 s)

/-- `LD (HL-),A`, 32 (rule R188). -/
def exec_ld_atHLd_a (s : State) : Host.Outcome State Fault Refusal := .next (ldHlStep (-1#16) s)

/-- `LD A,(HL-)`, 3A (rule R189). -/
def exec_ld_a_atHLd (s : State) : Host.Outcome State Fault Refusal := .next (ldAHlStep (-1#16) s)

end Sys2Proof.Machine
end

