-- ==== Sys2Proof/Machine/System.lean ====
section
/-! DEFINITION. System instructions, halt, stop, interrupt enable, the prefix byte, unassigned opcodes
(`46_system.md`). -/

namespace Sys2Proof.Machine

/-! ### Shared operations -/

/-- `halted <- 1` (rules R331, R332). -/
def haltCpu (s : State) : State := { s with run := { s.run with halted := true, cycles := 4 } }

/-- `STOP` switches the speed: generation 2 with the request bit armed (rule R332). -/
def speedSwitch (s : State) : Bool := decide (s.cfg.gen = .two) && s.run.speedArmed

/-- `STOP` (rule R332). -/
def stopCpu (s : State) : State :=
  if speedSwitch s then
    { s with run := { s.run with ds := !s.run.ds, speedArmed := false, cycles := 4 } }
  else haltCpu s

/-- `DI` (rule R333). -/
def disableInterrupts (s : State) : State :=
  { s with run := { s.run with ime := false, eiDelay := .zero, cycles := 4 } }

/-- `EI`: `ei_delay <- 2` (rule R334). -/
def enableInterrupts (s : State) : State := { s with run := { s.run with eiDelay := .two, cycles := 4 } }

/-- An unassigned opcode (rule R336): `locked <- 1`, or nothing by `ILLEGAL_POLICY`; 4 cycles. -/
def unassigned (s : State) : State :=
  match s.cfg.illegalPolicy with
  | .lock => { s with run := { s.run with locked := true, cycles := 4 } }
  | .nop => s.spend 4

/-- The prefix byte: `ext = Fetch8()`, then the extended-page instruction it selects (rule R335). -/
def prefixPage (s : State) : State := extPage (memRead s s.regs.pc) (s.jump (s.regs.pc + 1#16))

/-! ### The instructions -/

/-- `NOP`, 00 (rule R330). -/
def exec_nop (s : State) : Host.Outcome State Fault Refusal := .next (s.spend 4)

/-- `HALT`, 76 (rule R331). -/
def exec_halt (s : State) : Host.Outcome State Fault Refusal := .next (haltCpu s)

/-- `STOP`, 10 (rule R332). -/
def exec_stop (_ignored : Byte) (s : State) : Host.Outcome State Fault Refusal := .next (stopCpu s)

/-- `DI`, F3 (rule R333). -/
def exec_di (s : State) : Host.Outcome State Fault Refusal := .next (disableInterrupts s)

/-- `EI`, FB (rule R334). -/
def exec_ei (s : State) : Host.Outcome State Fault Refusal := .next (enableInterrupts s)

/-- `PREFIX CB`, CB (rule R335). -/
def exec_cb_page (s : State) : Host.Outcome State Fault Refusal := .next (prefixPage s)

/-- `ILLEGAL_D3`, D3 (rule R336). -/
def exec_illegal_d3 (s : State) : Host.Outcome State Fault Refusal := .next (unassigned s)

/-- `ILLEGAL_DB`, DB (rule R336). -/
def exec_illegal_db (s : State) : Host.Outcome State Fault Refusal := .next (unassigned s)

/-- `ILLEGAL_DD`, DD (rule R336). -/
def exec_illegal_dd (s : State) : Host.Outcome State Fault Refusal := .next (unassigned s)

/-- `ILLEGAL_E3`, E3 (rule R336). -/
def exec_illegal_e3 (s : State) : Host.Outcome State Fault Refusal := .next (unassigned s)

/-- `ILLEGAL_E4`, E4 (rule R336). -/
def exec_illegal_e4 (s : State) : Host.Outcome State Fault Refusal := .next (unassigned s)

/-- `ILLEGAL_EB`, EB (rule R336). -/
def exec_illegal_eb (s : State) : Host.Outcome State Fault Refusal := .next (unassigned s)

/-- `ILLEGAL_EC`, EC (rule R336). -/
def exec_illegal_ec (s : State) : Host.Outcome State Fault Refusal := .next (unassigned s)

/-- `ILLEGAL_ED`, ED (rule R336). -/
def exec_illegal_ed (s : State) : Host.Outcome State Fault Refusal := .next (unassigned s)

/-- `ILLEGAL_F4`, F4 (rule R336). -/
def exec_illegal_f4 (s : State) : Host.Outcome State Fault Refusal := .next (unassigned s)

/-- `ILLEGAL_FC`, FC (rule R336). -/
def exec_illegal_fc (s : State) : Host.Outcome State Fault Refusal := .next (unassigned s)

/-- `ILLEGAL_FD`, FD (rule R336). -/
def exec_illegal_fd (s : State) : Host.Outcome State Fault Refusal := .next (unassigned s)

end Sys2Proof.Machine
end

