-- ==== Sys2Proof/Machine/Cpu.lean ====
section
/-! DEFINITION. `CPU.step()` (rule R451), one iteration of the step loop (rule R8), and placing an instruction
where the next step fetches it. `Machine/Step.lean` only names them. -/

namespace Sys2Proof.Machine

/-- The `EI` countdown at the end of a step that executed an instruction (rule R450). -/
def eiCountdown (s : State) : State :=
  match s.run.eiDelay with
  | .zero => s
  | .one => { s with run := { s.run with eiDelay := .zero, ime := true } }
  | .two => { s with run := { s.run with eiDelay := .one } }

/-- Fetch, execute, count down (rule R451). -/
def executeNext (s : State) : Host.Outcome State Fault Refusal :=
  match exec (fetchInstr s) (advance s (fetchInstr s)) with
  | .next t => .next (eiCountdown t)
  | .fault r => .fault r
  | .refused r => .refused r

/-- `CPU.step()`, complete (rules R449, R451, R452, R454). -/
def cpuStep (s : State) : Host.Outcome State Fault Refusal :=
  if s.run.locked then .next (s.spend 4)
  else
    match checkAndDispatch s with
    | (t, true) => .next t
    | (t, false) => if t.run.halted then .next (t.spend 4) else executeNext t

/-- One iteration: `CPU.step`, then the other agents (rule R8). -/
def iteration (s : State) : Host.Outcome State Fault Refusal :=
  match cpuStep s with
  | .next t => .next (devices t)
  | .fault r => .fault r
  | .refused r => .refused r

/-! ### Placing an instruction -/

/-- An address whose byte is a plain cell of an array, so that a byte put there is what is read there. -/
def isCell (s : State) (a : Word) : Bool :=
  match place s a with
  | .nowhere => false
  | .page i => decide (pageReg s.cfg.gen i = .plain)
  | _ => true

/-- Sets the cell behind an address from outside the machine: a ROM byte belongs to the loaded image. -/
def pokeCell (s : State) (a : Word) (v : Byte) : State :=
  match place s a with
  | .rom k => { s with cfg := { s.cfg with rom := Memory.write (w := 8) s.cfg.rom k v } }
  | .vram k => { s with ram := { s.ram with vram := s.ram.vram.write k v } }
  | .eram k => { s with cart := { s.cart with eram := s.cart.eram.write k v } }
  | .wram k => { s with ram := { s.ram with wram := s.ram.wram.write k v } }
  | .oam k => { s with ram := { s.ram with oam := s.ram.oam.write k v } }
  | .nowhere => s
  | .page i => { s with ram := { s.ram with io := s.ram.io.write i.toNat v } }

/-- Consecutive cells from `a` on. -/
def pokeCells (a : Word) : List Byte → State → State
  | [], s => s
  | v :: r, s => pokeCells (a + 1#16) r (pokeCell s a v)

/-- `PC` where three bytes can be placed: as it is, or the entry point 0x0100 when a byte at `PC` is not a
plain cell (log entry 10). -/
def placeablePc (s : State) : Word :=
  if isCell s s.regs.pc && isCell s (s.regs.pc + 1#16) && isCell s (s.regs.pc + 2#16) then s.regs.pc else 0x0100#16

/-- The CPU ready to fetch: running, with no interrupt about to be dispatched (log entry 10). -/
def readyToFetch (s : State) : State :=
  { s with run := { s.run with
      halted := false
      locked := false
      ime := s.run.ime && decide (selectSource (pending s.irq) = none) } }

/-- The three bytes of a table word placed where the next step fetches (log entries 8, 10). -/
def placeWord (s : State) (nbits w : Nat) : State :=
  let s1 := (readyToFetch s).jump (placeablePc s)
  pokeCells s1.regs.pc (tableBytes nbits w) s1

end Sys2Proof.Machine
end

