-- ==== Sys2Proof/Machine/Step.lean ====
section
/-! DEFINITION. The step: one iteration of the loop of rule R8, as `Machine/Cpu.lean` defines it. -/

namespace Sys2Proof.Machine

/-- One iteration of the machine (rule R8). -/
def step (s : State) : Host.Outcome State Fault Refusal := iteration s

/-- The state with an instruction of the opcode table placed where `step` fetches its next instruction. -/
def State.withFetchWord (s : State) (nbits w : Nat) : State := placeWord s nbits w

end Sys2Proof.Machine
end

