-- ==== Sys2Proof/Safety.lean ====
section
/-! DEFINITION. What claims speak of: a safe state, the invariants of the machine, and the words the statements are
written in (the numbers of the selector tables, the forms of an operand, what an instruction stores, a loop). -/

namespace Sys2Proof.Machine

/-- The machine does not stop here. -/
def Safe (s : State) : Prop := ∃ t, step s = .next t

/-- "Invariant: flag byte's low 4 bits are always clear" (rule R21). -/
abbrev FlagNibbleClear (s : State) : Prop := s.regs.f &&& 0x0F#8 = 0#8

/-- An array of `n` cells in canonical form. -/
abbrev ArrayOk {w : Nat} (n : Nat) (m : Memory w) : Prop := m.wf = true ∧ m.below n = true

/-- Every storage array is in canonical form and lists no cell beyond the size rule R30 gives it. -/
abbrev ArraysOk (s : State) : Prop :=
  ArrayOk (w := 8) (romBanks s.cfg * 0x4000) s.cfg.rom ∧ ArrayOk (ramBanks s.cfg * 0x2000) s.cart.eram
    ∧ ArrayOk (vramBanks s.cfg * 0x2000) s.ram.vram ∧ ArrayOk (wramBanks s.cfg * 0x1000) s.ram.wram
    ∧ ArrayOk 160 s.ram.oam ∧ ArrayOk 256 s.ram.io ∧ ArrayOk 64 s.lcd.bgPal ∧ ArrayOk 64 s.lcd.objPal
    ∧ ArrayOk (144 * 160) s.lcd.fb ∧ ∀ fb ∈ s.host.frames, ArrayOk (144 * 160) fb

/-- The bank registers are in range: `rom_bank < ROM_BANKS` (rule R118), and each mapper's own limits on
`ram_bank` and `bank_mode` (rules R31, R113, R115). -/
abbrev BanksOk (s : State) : Prop :=
  s.cart.romBank.toNat < romBanks s.cfg
    ∧ (s.cfg.mapper = .variant1 → s.cart.ramBank.toNat < 4)
    ∧ (s.cfg.mapper = .variant2 → s.cart.ramBank = 0#4)
    ∧ (s.cfg.mapper ≠ .variant1 → s.cart.bankMode = false)

/-- The mode machine is in a legal place: the counter is above 0 and at most the mode's budget, VBlank is on
lines 144 to 153 and every other mode on lines 0 to 143 (rules R37, R351, R352, R361). -/
abbrev LcdOk (s : State) : Prop :=
  0 < s.lcd.counter ∧ s.lcd.counter ≤ budget s.lcd.mode
    ∧ (s.lcd.mode = .vblank → 144 ≤ s.lcd.ly.toNat ∧ s.lcd.ly.toNat ≤ 153)
    ∧ (s.lcd.mode ≠ .vblank → s.lcd.ly.toNat < 144)

/-- The block-DMA state is legal: at most 128 blocks, some left while a transfer is active, the destination in
video RAM, both pointers on 16-byte boundaries (rules R47, R48, R125 to R130). -/
abbrev DmaOk (s : State) : Prop :=
  s.dma.rem.toNat ≤ 128 ∧ (s.dma.active = true → s.dma.rem ≠ 0#8)
    ∧ s.dma.dst &&& 0xE00F#16 = 0x8000#16 ∧ s.dma.src &&& 0x000F#16 = 0#16

/-- `tima_acc` is an integer 0 to 1023 (rule R466). -/
abbrev TimerOk (s : State) : Prop := s.tim.timaAcc ≤ 1023

/-- On generation 1 there is no double speed, no armed switch and no block DMA (rules R27, R44, R47). -/
abbrev Gen1Ok (s : State) : Prop :=
  s.cfg.gen = .one → s.run.ds = false ∧ s.run.speedArmed = false ∧ s.dma.active = false

/-- All of them. -/
abbrev Inv (s : State) : Prop :=
  FlagNibbleClear s ∧ ArraysOk s ∧ BanksOk s ∧ LcdOk s ∧ DmaOk s ∧ TimerOk s ∧ Gen1Ok s

/-- The place in the frame that `t` cycles from the start of line 0 lead to (rules R351, R365): the line, the mode, and the
cycles left in the mode. A line is 80 cycles of Search, 172 of Drawing and 204 of HBlank, or 456 of VBlank; a frame is 154
lines, the last ten VBlank. -/
abbrev AtPosition (t : Nat) (s : State) : Prop :=
  s.lcd.ly.toNat = t / 456 % 154
    ∧ s.lcd.mode = (if 144 ≤ t / 456 % 154 then .vblank
        else if t % 456 < 80 then .search else if t % 456 < 252 then .drawing else .hblank)
    ∧ s.lcd.counter = (if 144 ≤ t / 456 % 154 then 456
        else if t % 456 < 80 then 80 else if t % 456 < 252 then 252 else 456) - (t % 456 : Nat)

/-! ### A next state -/

/-- The registers are `g`, the count is `k`, and nothing else has changed. -/
abbrev State.after (s : State) (g : Regs) (k : Nat) : State := { s with regs := g, run := { s.run with cycles := k } }

/-! ### The numbers of the selector tables -/

/-- `i` of `r8[i]` (rule R144). -/
def regCode : Reg8 → Nat
  | .b => 0
  | .c => 1
  | .d => 2
  | .e => 3
  | .h => 4
  | .l => 5
  | .a => 7

/-- `p` of `rp[p]` (rule R145). -/
def rpCode : Rp → Nat
  | .bc => 0
  | .de => 1
  | .hl => 2
  | .sp => 3

/-- `p` of `rp2[p]` (rule R146). -/
def rp2Code : Rp2 → Nat
  | .bc => 0
  | .de => 1
  | .hl => 2
  | .af => 3

/-- `i` of `cc[i]` (rule R147). -/
def ccCode : Cond → Nat
  | .nz => 0
  | .z => 1
  | .nc => 2
  | .c => 3

/-- `y` of `alu[y]` (rule R147). -/
def aluCode : AluOp → Nat
  | .add => 0
  | .adc => 1
  | .sub => 2
  | .sbc => 3
  | .and => 4
  | .xor => 5
  | .or => 6
  | .cp => 7

/-- `y` of `rot[y]` (rule R147). -/
def rotCode : RotOp → Nat
  | .rlc => 0
  | .rrc => 1
  | .rl => 2
  | .rr => 3
  | .sla => 4
  | .sra => 5
  | .swap => 6
  | .srl => 7

/-- The byte of an unassigned opcode (rule R150). -/
def unassignedByte : Unassigned → Byte
  | .d3 => 0xD3#8
  | .db => 0xDB#8
  | .dd => 0xDD#8
  | .e3 => 0xE3#8
  | .e4 => 0xE4#8
  | .eb => 0xEB#8
  | .ec => 0xEC#8
  | .ed => 0xED#8
  | .f4 => 0xF4#8
  | .fc => 0xFC#8
  | .fd => 0xFD#8

/-! ### Operands, conditions, shifts, by the spec's expressions -/

/-- The three forms of an accumulator operation (rule R220): the instruction, its bytes, its second operand, its
count. -/
inductive AluForm (op : AluOp) (s : State) : Instr → List Byte → Byte → Nat → Prop
  | reg (z : Reg8) :
      AluForm op s (Family.aluR op z) [BitVec.ofNat 8 (0x80 + 8 * aluCode op + regCode z)] (s.regs.get z) 4
  | mem : AluForm op s (Family.aluM op) [BitVec.ofNat 8 (0x86 + 8 * aluCode op)] (memRead s s.regs.hl) 8
  | imm (n : Byte) : AluForm op s (Family.aluN op n) [BitVec.ofNat 8 (0xC6 + 8 * aluCode op), n] n 8

/-- `Cond(i)` on the flag byte: Zero is bit 7, Carry is bit 4 (rules R21, R300). -/
def condHolds (k : Cond) (f : Byte) : Prop :=
  match k with
  | .nz => f.getLsbD 7 = false
  | .z => f.getLsbD 7 = true
  | .nc => f.getLsbD 4 = false
  | .c => f.getLsbD 4 = true

/-- One bit as a byte, 0 or 1. -/
def bitByte (b : Bool) : Byte := if b then 1#8 else 0#8

/-- `r` of the rotate and shift group, by the shifts of rules R275 to R282; `c` is `fC`. -/
def shiftResult (op : RotOp) (v : Byte) (c : Bool) : Byte :=
  match op with
  | .rlc => v <<< 1 ||| bitByte (v.getLsbD 7)
  | .rrc => v >>> 1 ||| bitByte (v.getLsbD 0) <<< 7
  | .rl => v <<< 1 ||| bitByte c
  | .rr => v >>> 1 ||| bitByte c <<< 7
  | .sla => v <<< 1
  | .sra => v >>> 1 ||| (v &&& 0x80#8)
  | .swap => v <<< 4 ||| v >>> 4
  | .srl => v >>> 1

/-- `co` of the rotate and shift group (rules R274 to R282). -/
def shiftOut (op : RotOp) (v : Byte) : Bool :=
  match op with
  | .rlc => v.getLsbD 7
  | .rrc => v.getLsbD 0
  | .rl => v.getLsbD 7
  | .rr => v.getLsbD 0
  | .sla => v.getLsbD 7
  | .sra => v.getLsbD 0
  | .swap => false
  | .srl => v.getLsbD 0

/-! ### Storage and stores -/

/-- An address behind which there is one cell of an array that a store changes and a load reads back: video RAM,
enabled external RAM, work RAM, the sprite table, a plain byte of the page (rules R84 to R88, R100). -/
def isStorage (s : State) (a : Word) : Bool :=
  match place s a with
  | .rom _ => false
  | .vram _ => true
  | .eram _ => true
  | .wram _ => true
  | .oam _ => true
  | .nowhere => false
  | .page i => decide (pageReg s.cfg.gen i = .plain)

/-- The address of a page offset, `0xFF00 | n` (rule R142). -/
def pageAddress (n : Byte) : Word := 0xFF00#16 ||| n.setWidth 16

/-- The forms that store one byte: the instruction, the address it stores to, the byte it stores, all computed from
the state before it (rules R174 to R188, R230, R232, R274, R284, R285). -/
inductive StoresByte (s : State) : Instr → Word → Byte → Prop
  | ldMR (z : Reg8) : StoresByte s (Family.ldMR z) s.regs.hl (s.regs.get z)
  | ldMN (n : Byte) : StoresByte s (.ld_atHL_d8 n) s.regs.hl n
  | ldBC : StoresByte s .ld_atBC_a s.regs.bc s.regs.a
  | ldDE : StoresByte s .ld_atDE_a s.regs.de s.regs.a
  | ldA16 (nn : Word) : StoresByte s (.ld_atA16_a nn) nn s.regs.a
  | ldhA8 (n : Byte) : StoresByte s (.ldh_atA8_a n) (pageAddress n) s.regs.a
  | ldC : StoresByte s .ld_atC_a (pageAddress s.regs.c) s.regs.a
  | ldHLi : StoresByte s .ld_atHLi_a s.regs.hl s.regs.a
  | ldHLd : StoresByte s .ld_atHLd_a s.regs.hl s.regs.a
  | incM : StoresByte s .inc_atHL s.regs.hl (memRead s s.regs.hl + 1#8)
  | decM : StoresByte s .dec_atHL s.regs.hl (memRead s s.regs.hl - 1#8)
  | rotM (op : RotOp) : StoresByte s (Family.rotM op) s.regs.hl (shiftResult op (memRead s s.regs.hl) s.regs.fC)
  | resM (b : Oct) : StoresByte s (Family.resM b) s.regs.hl (memRead s s.regs.hl &&& ~~~ (1#8 <<< octNat b))
  | setM (b : Oct) : StoresByte s (Family.setM b) s.regs.hl (memRead s s.regs.hl ||| 1#8 <<< octNat b)

/-- The forms that store two bytes: the instruction, the lower address, the word stored there low byte first
(rules R202, R205, R306, R307, R311). `PC` is past the instruction. -/
inductive StoresWord (s : State) : Instr → Word → Word → Prop
  | ldSp (nn : Word) : StoresWord s (.ld_atA16_sp nn) nn s.regs.sp
  | push (p : Rp2) : StoresWord s (Family.push p) (s.regs.sp - 2#16) (s.regs.getRp2 p)
  | call (nn : Word) : StoresWord s (.call_a16 nn) (s.regs.sp - 2#16) s.regs.pc
  | callCc (k : Cond) (nn : Word) (h : condHolds k s.regs.f) :
      StoresWord s (Family.callCc k nn) (s.regs.sp - 2#16) s.regs.pc
  | rst (y : Oct) : StoresWord s (Family.rst y) (s.regs.sp - 2#16) s.regs.pc

/-- The forms that store nothing. A conditional call belongs here when its condition is false. -/
inductive StoresNothing (s : State) : Instr → Prop
  | ldRR (y z : Reg8) : StoresNothing s (Family.ldRR y z)
  | ldRN (y : Reg8) (n : Byte) : StoresNothing s (Family.ldRN y n)
  | ldRM (y : Reg8) : StoresNothing s (Family.ldRM y)
  | ldABC : StoresNothing s .ld_a_atBC
  | ldADE : StoresNothing s .ld_a_atDE
  | ldAA16 (nn : Word) : StoresNothing s (.ld_a_atA16 nn)
  | ldhAA8 (n : Byte) : StoresNothing s (.ldh_a_atA8 n)
  | ldAC : StoresNothing s .ld_a_atC
  | ldAHLi : StoresNothing s .ld_a_atHLi
  | ldAHLd : StoresNothing s .ld_a_atHLd
  | ldRp (p : Rp) (nn : Word) : StoresNothing s (Family.ldRp p nn)
  | ldSpHl : StoresNothing s .ld_sp_hl
  | ldHlSp (e : Byte) : StoresNothing s (.ld_hl_spe8 e)
  | pop (p : Rp2) : StoresNothing s (Family.pop p)
  | aluR (op : AluOp) (z : Reg8) : StoresNothing s (Family.aluR op z)
  | aluM (op : AluOp) : StoresNothing s (Family.aluM op)
  | aluN (op : AluOp) (n : Byte) : StoresNothing s (Family.aluN op n)
  | incR (y : Reg8) : StoresNothing s (Family.incR y)
  | decR (y : Reg8) : StoresNothing s (Family.decR y)
  | daa : StoresNothing s .daa
  | cpl : StoresNothing s .cpl
  | scf : StoresNothing s .scf
  | ccf : StoresNothing s .ccf
  | addHl (p : Rp) : StoresNothing s (Family.addHl p)
  | incRp (p : Rp) : StoresNothing s (Family.incRp p)
  | decRp (p : Rp) : StoresNothing s (Family.decRp p)
  | addSp (e : Byte) : StoresNothing s (.add_sp_e8 e)
  | rlca : StoresNothing s .rlca
  | rrca : StoresNothing s .rrca
  | rla : StoresNothing s .rla
  | rra : StoresNothing s .rra
  | rotR (op : RotOp) (z : Reg8) : StoresNothing s (Family.rotR op z)
  | bitR (b : Oct) (z : Reg8) : StoresNothing s (Family.bitR b z)
  | bitM (b : Oct) : StoresNothing s (Family.bitM b)
  | resR (b : Oct) (z : Reg8) : StoresNothing s (Family.resR b z)
  | setR (b : Oct) (z : Reg8) : StoresNothing s (Family.setR b z)
  | jp (nn : Word) : StoresNothing s (.jp_a16 nn)
  | jpCc (k : Cond) (nn : Word) : StoresNothing s (Family.jpCc k nn)
  | jpHl : StoresNothing s .jp_hl
  | jr (e : Byte) : StoresNothing s (.jr_e8 e)
  | jrCc (k : Cond) (e : Byte) : StoresNothing s (Family.jrCc k e)
  | callCc (k : Cond) (nn : Word) (h : ¬ condHolds k s.regs.f) : StoresNothing s (Family.callCc k nn)
  | ret : StoresNothing s .ret
  | retCc (k : Cond) : StoresNothing s (Family.retCc k)
  | reti : StoresNothing s .reti
  | nop : StoresNothing s .nop
  | halt : StoresNothing s .halt
  | di : StoresNothing s .di
  | ei : StoresNothing s .ei
  | illegal (u : Unassigned) : StoresNothing s (Family.illegal u)

/-! ### Interrupts -/

/-- Source `n` is enabled and pending (rule R443). -/
def wanted (s : State) (n : Source) : Prop :=
  s.irq.ie.getLsbD n.bitIndex = true ∧ s.irq.iflag.getLsbD n.bitIndex = true

/-- No interrupt is taken at the start of this step: `IME` is 0, or no source that can be taken is enabled and pending
(rules R446, R448). -/
def noDispatch (s : State) : Prop :=
  s.run.ime = false ∨ (¬ wanted s .vblank ∧ ¬ wanted s .status ∧ ¬ wanted s .timer ∧ ¬ wanted s .input)

/-- `n` is the source the priority order takes: enabled, pending, and none before it in the order vblank, status,
timer, input is both (rules R446, R447). -/
def taken (s : State) (n : Source) : Prop :=
  wanted s n ∧
    match n with
    | .vblank => True
    | .status => ¬ wanted s .vblank
    | .timer => ¬ wanted s .vblank ∧ ¬ wanted s .status
    | .serial => False
    | .input => ¬ wanted s .vblank ∧ ¬ wanted s .status ∧ ¬ wanted s .timer

/-! ### Loops and positions -/

/-- `while c: f`, from the first state to the last. -/
inductive While {α : Type} (c : α → Prop) (f : α → α) : α → α → Prop
  | done (a : α) (h : ¬ c a) : While c f a a
  | again (a b : α) (h : c a) (k : While c f (f a) b) : While c f a b

/-- `f` applied `k` times. -/
def times {α : Type} (f : α → α) : Nat → α → α
  | 0, a => a
  | k + 1, a => times f k (f a)

end Sys2Proof.Machine
end

