-- ==== Sys2Proof/WellFormed.lean ====
section
/-! DEFINITION. What is well formed: an instruction, a configuration, a boot record. A configuration given as
numbers is refused unless every one is legal (rule R493, U6 to U8). -/

namespace Sys2Proof

open Sys2Proof.Machine

/-- The prefix byte "is never executed alone" (rule R152): its row is no instruction of its own. Every other
constructor is well formed with every immediate, "no reserved fields" (rule R151). -/
def Instr.wf (i : Instr) : Bool := decide (i ≠ .cb_page)

/-- The listed bytes of the ROM image are in canonical form and inside `ROM_BANKS * 16384` (rules R6, R493), and the
conversion table is in canonical form. -/
def Config.wf (c : Config) : Bool :=
  Memory.wf (w := 8) c.rom && Memory.below (w := 8) (2 * 2 ^ c.romCode.val * 0x4000) c.rom && c.colours.wf

/-- `F`'s low nibble is 0 (rule R21), the block count is at most 128 (rule R125), `tima_acc` is at most 1023 (rule R466),
and every array is in canonical form. -/
def Machine.Boot.wf (b : Boot) : Bool :=
  decide (b.regs.f &&& 0x0F#8 = 0#8) && decide (b.dma.rem.toNat ≤ 128) && decide (b.tim.timaAcc ≤ 1023)
    && b.cart.eram.wf && b.ram.vram.wf && b.ram.wram.wf && b.ram.oam.wf && b.ram.io.wf
    && b.lcd.bgPal.wf && b.lcd.objPal.wf && b.lcd.fb.wf

/-- `GEN` in 1 to 2. -/
def genOf : Nat → Option Gen
  | 1 => some .one
  | 2 => some .two
  | _ => none

/-- `MAPPER` in 1 to 4. -/
def mapperOf : Nat → Option Mapper
  | 1 => some .variant1
  | 2 => some .variant2
  | 3 => some .variant3
  | 4 => some .variant4
  | _ => none

/-- `RAM_BANKS` in 0, 1, 4, 8, 16. -/
def ramBanksOf : Nat → Option RamBanks
  | 0 => some .none
  | 1 => some .one
  | 4 => some .four
  | 8 => some .eight
  | 16 => some .sixteen
  | _ => none

/-- `ROM_BANKS` a power of two from 2 to 512. -/
def romCodeOf (n : Nat) : Option (Fin 9) := (List.finRange 9).find? (fun c => decide (2 * 2 ^ c.val = n))

/-- The bytes of an image that are not 0, with their addresses, from `k` on. -/
def imageCells : Nat → List Byte → List Host.Cell
  | _, [] => []
  | k, v :: r => if v = unlisted 8 then imageCells (k + 1) r else (k, v) :: imageCells (k + 1) r

/-- A configuration from numbers, an image and the two conversions, refused (`none`) when one is not legal (rules R6,
R493; U8). -/
def Config.ofNumbers (gen mapper romBanks ramBanks : Nat) (image : List Byte) (openBus : Byte)
    (policy : IllegalPolicy) (shades : Shades) (colours : Colours) : Option Config :=
  match genOf gen, mapperOf mapper, romCodeOf romBanks, ramBanksOf ramBanks with
  | some g, some m, some c, some r =>
    if image.length = romBanks * 16384 ∧ colours.wf = true then
      some { gen := g, mapper := m, romCode := c, ramBanks := r, openBus := openBus, illegalPolicy := policy
             rom := imageCells 0 image, shades := shades, colours := colours }
    else none
  | _, _, _, _ => none

end Sys2Proof
end

