-- ==== Sys2Proof/Certificates/Slice0/Obligations.lean ====
section
/-! DEFINITION. The statements for the provers. An instruction's statement takes the state in which `PC` is already
past the instruction (rule R12); `StepRunsTheDecodedInstruction` says how a step gets there. -/

open Sys2Proof Sys2Proof.Machine

/-! ### Encoding -/

/-- Decoding the bytes of any well-formed instruction, whatever follows them, gives it back with every operand
(rules R140 to R149, R151). -/
def Obligations.DecodeOfEncodeIsTheInstruction : Prop :=
  ∀ (i : Instr) (rest : List Byte), i.wf = true → decode (encode i ++ rest) = .ok (i, rest)

/-- Whatever bytes decode to an instruction are that instruction's bytes: no bit of an encoding is ignored, the second
byte of `STOP` included (rules R151, R152). -/
def Obligations.EncodeOfDecodeIsTheBytes : Prop :=
  ∀ (bytes rest : List Byte) (i : Instr), decode bytes = .ok (i, rest) → i.wf = true ∧ bytes = encode i ++ rest

/-- "Length is a function of the opcode byte alone" (rule R143), with the opcodes of formats I2 and I3 listed from rule
R148. Bytes are refused only when there are too few of them. -/
def Obligations.LengthIsSetByTheOpcode : Prop :=
  ∀ (op : Byte) (rest : List Byte),
    let two : List Byte := [0x06#8, 0x0E#8, 0x16#8, 0x1E#8, 0x26#8, 0x2E#8, 0x36#8, 0x3E#8, 0x10#8, 0x18#8, 0x20#8,
      0x28#8, 0x30#8, 0x38#8, 0xC6#8, 0xCE#8, 0xD6#8, 0xDE#8, 0xE6#8, 0xEE#8, 0xF6#8, 0xFE#8, 0xE0#8, 0xE8#8, 0xF0#8,
      0xF8#8, 0xCB#8]
    let three : List Byte := [0x01#8, 0x08#8, 0x11#8, 0x21#8, 0x31#8, 0xC2#8, 0xC3#8, 0xC4#8, 0xCA#8, 0xCC#8, 0xCD#8,
      0xD2#8, 0xD4#8, 0xDA#8, 0xDC#8, 0xEA#8, 0xFA#8]
    let n := if op ∈ three then 3 else if op ∈ two then 2 else 1
    (n ≤ rest.length + 1 → ∃ i, decode (op :: rest) = .ok (i, (op :: rest).drop n) ∧ (encode i).length = n) ∧
    (rest.length + 1 < n → decode (op :: rest) = .error (.truncated op))

/-- The opcode map: the 16 by 16 grid of rule R156, row by row, with any two bytes after the opcode (the byte after 0xCB
selects from the extended page; the dashes of the grid are the unassigned opcodes of rule R150), and the four groups
of the extended page with the operand and the bit number in their fields (rule R149). -/
def Obligations.OpcodeMapIsTheGridAndTheExtendedPage : Prop :=
  (∀ n1 n2 : Byte,
    let row := fun (h : Nat) (is : List Instr) =>
      (List.range 16).map (fun k => decodeBytes (BitVec.ofNat 8 (16 * h + k)) n1 n2) = is
    row 0 [.nop, .ld_bc_d16 (n2 ++ n1), .ld_atBC_a, .inc_bc, .inc_b, .dec_b, .ld_b_d8 n1, .rlca,
      .ld_atA16_sp (n2 ++ n1), .add_hl_bc, .ld_a_atBC, .dec_bc, .inc_c, .dec_c, .ld_c_d8 n1, .rrca] ∧
    row 1 [.stop n1, .ld_de_d16 (n2 ++ n1), .ld_atDE_a, .inc_de, .inc_d, .dec_d, .ld_d_d8 n1, .rla, .jr_e8 n1,
      .add_hl_de, .ld_a_atDE, .dec_de, .inc_e, .dec_e, .ld_e_d8 n1, .rra] ∧
    row 2 [.jr_nz_e8 n1, .ld_hl_d16 (n2 ++ n1), .ld_atHLi_a, .inc_hl, .inc_h, .dec_h, .ld_h_d8 n1, .daa, .jr_z_e8 n1,
      .add_hl_hl, .ld_a_atHLi, .dec_hl, .inc_l, .dec_l, .ld_l_d8 n1, .cpl] ∧
    row 3 [.jr_nc_e8 n1, .ld_sp_d16 (n2 ++ n1), .ld_atHLd_a, .inc_sp, .inc_atHL, .dec_atHL, .ld_atHL_d8 n1, .scf,
      .jr_c_e8 n1, .add_hl_sp, .ld_a_atHLd, .dec_sp, .inc_a, .dec_a, .ld_a_d8 n1, .ccf] ∧
    row 4 [.ld_b_b, .ld_b_c, .ld_b_d, .ld_b_e, .ld_b_h, .ld_b_l, .ld_b_atHL, .ld_b_a, .ld_c_b, .ld_c_c, .ld_c_d,
      .ld_c_e, .ld_c_h, .ld_c_l, .ld_c_atHL, .ld_c_a] ∧
    row 5 [.ld_d_b, .ld_d_c, .ld_d_d, .ld_d_e, .ld_d_h, .ld_d_l, .ld_d_atHL, .ld_d_a, .ld_e_b, .ld_e_c, .ld_e_d,
      .ld_e_e, .ld_e_h, .ld_e_l, .ld_e_atHL, .ld_e_a] ∧
    row 6 [.ld_h_b, .ld_h_c, .ld_h_d, .ld_h_e, .ld_h_h, .ld_h_l, .ld_h_atHL, .ld_h_a, .ld_l_b, .ld_l_c, .ld_l_d,
      .ld_l_e, .ld_l_h, .ld_l_l, .ld_l_atHL, .ld_l_a] ∧
    row 7 [.ld_atHL_b, .ld_atHL_c, .ld_atHL_d, .ld_atHL_e, .ld_atHL_h, .ld_atHL_l, .halt, .ld_atHL_a, .ld_a_b,
      .ld_a_c, .ld_a_d, .ld_a_e, .ld_a_h, .ld_a_l, .ld_a_atHL, .ld_a_a] ∧
    row 8 [.add_a_b, .add_a_c, .add_a_d, .add_a_e, .add_a_h, .add_a_l, .add_a_atHL, .add_a_a, .adc_a_b, .adc_a_c,
      .adc_a_d, .adc_a_e, .adc_a_h, .adc_a_l, .adc_a_atHL, .adc_a_a] ∧
    row 9 [.sub_a_b, .sub_a_c, .sub_a_d, .sub_a_e, .sub_a_h, .sub_a_l, .sub_a_atHL, .sub_a_a, .sbc_a_b, .sbc_a_c,
      .sbc_a_d, .sbc_a_e, .sbc_a_h, .sbc_a_l, .sbc_a_atHL, .sbc_a_a] ∧
    row 10 [.and_a_b, .and_a_c, .and_a_d, .and_a_e, .and_a_h, .and_a_l, .and_a_atHL, .and_a_a, .xor_a_b, .xor_a_c,
      .xor_a_d, .xor_a_e, .xor_a_h, .xor_a_l, .xor_a_atHL, .xor_a_a] ∧
    row 11 [.or_a_b, .or_a_c, .or_a_d, .or_a_e, .or_a_h, .or_a_l, .or_a_atHL, .or_a_a, .cp_a_b, .cp_a_c, .cp_a_d,
      .cp_a_e, .cp_a_h, .cp_a_l, .cp_a_atHL, .cp_a_a] ∧
    row 12 [.ret_nz, .pop_bc, .jp_nz_a16 (n2 ++ n1), .jp_a16 (n2 ++ n1), .call_nz_a16 (n2 ++ n1), .push_bc,
      .add_a_d8 n1, .rst_00h, .ret_z, .ret, .jp_z_a16 (n2 ++ n1), decodeExt n1, .call_z_a16 (n2 ++ n1),
      .call_a16 (n2 ++ n1), .adc_a_d8 n1, .rst_08h] ∧
    row 13 [.ret_nc, .pop_de, .jp_nc_a16 (n2 ++ n1), .illegal_d3, .call_nc_a16 (n2 ++ n1), .push_de, .sub_a_d8 n1,
      .rst_10h, .ret_c, .reti, .jp_c_a16 (n2 ++ n1), .illegal_db, .call_c_a16 (n2 ++ n1), .illegal_dd, .sbc_a_d8 n1,
      .rst_18h] ∧
    row 14 [.ldh_atA8_a n1, .pop_hl, .ld_atC_a, .illegal_e3, .illegal_e4, .push_hl, .and_a_d8 n1, .rst_20h,
      .add_sp_e8 n1, .jp_hl, .ld_atA16_a (n2 ++ n1), .illegal_eb, .illegal_ec, .illegal_ed, .xor_a_d8 n1, .rst_28h] ∧
    row 15 [.ldh_a_atA8 n1, .pop_af, .ld_a_atC, .di, .illegal_f4, .push_af, .or_a_d8 n1, .rst_30h, .ld_hl_spe8 n1,
      .ld_sp_hl, .ld_a_atA16 (n2 ++ n1), .ei, .illegal_fc, .illegal_fd, .cp_a_d8 n1, .rst_38h]) ∧
  (∀ (op : RotOp) (z : Reg8),
    decode [0xCB#8, BitVec.ofNat 8 (8 * rotCode op + regCode z)] = .ok (Family.rotR op z, [])) ∧
  (∀ op : RotOp, decode [0xCB#8, BitVec.ofNat 8 (8 * rotCode op + 6)] = .ok (Family.rotM op, [])) ∧
  (∀ (b : Oct) (z : Reg8),
    decode [0xCB#8, BitVec.ofNat 8 (0x40 + 8 * octNat b + regCode z)] = .ok (Family.bitR b z, []) ∧
    decode [0xCB#8, BitVec.ofNat 8 (0x80 + 8 * octNat b + regCode z)] = .ok (Family.resR b z, []) ∧
    decode [0xCB#8, BitVec.ofNat 8 (0xC0 + 8 * octNat b + regCode z)] = .ok (Family.setR b z, [])) ∧
  (∀ b : Oct,
    decode [0xCB#8, BitVec.ofNat 8 (0x46 + 8 * octNat b)] = .ok (Family.bitM b, []) ∧
    decode [0xCB#8, BitVec.ofNat 8 (0x86 + 8 * octNat b)] = .ok (Family.resM b, []) ∧
    decode [0xCB#8, BitVec.ofNat 8 (0xC6 + 8 * octNat b)] = .ok (Family.setM b, []))

/-- A few words written out bit by bit from the encodings of rules R171, R201, R205, R221, R285, R302. -/
def Obligations.WrittenOutWordsDecode : Prop :=
  decode [0b01111000#8] = .ok (.ld_a_b, []) ∧
  decode [0b00110001#8, 0xFE#8, 0xFF#8] = .ok (.ld_sp_d16 0xFFFE#16, []) ∧
  decode [0b11110101#8] = .ok (.push_af, []) ∧
  decode [0b11000110#8, 0xFF#8] = .ok (.add_a_d8 0xFF#8, []) ∧
  decode [0b11001011#8, 0b11111110#8] = .ok (.set_7_atHL, []) ∧
  decode [0b11001010#8, 0x00#8, 0xC2#8] = .ok (.jp_z_a16 0xC200#16, [])

/-! ### Registers -/

/-- The pairs are views with the first-named register in the high byte, a write to a pair writes both halves, and a
write to `AF` clears `F[3:0]` (rule R22). -/
def Obligations.PairsAreViewsOfTheirHalves : Prop :=
  ∀ (g : Regs) (v : Word),
    g.getRp2 .bc = g.b ++ g.c ∧ g.getRp2 .de = g.d ++ g.e ∧ g.getRp2 .hl = g.h ++ g.l ∧ g.getRp2 .af = g.a ++ g.f ∧
    g.setRp2 .bc v = { g with b := v.extractLsb' 8 8, c := v.extractLsb' 0 8 } ∧
    g.setRp2 .de v = { g with d := v.extractLsb' 8 8, e := v.extractLsb' 0 8 } ∧
    g.setRp2 .hl v = { g with h := v.extractLsb' 8 8, l := v.extractLsb' 0 8 } ∧
    g.setRp2 .af v = { g with a := v.extractLsb' 8 8, f := v.extractLsb' 0 8 &&& 0xF0#8 } ∧
    (∀ p, p ≠ .af → (g.setRp2 p v).getRp2 p = v) ∧ (g.setRp2 .af v).getRp2 .af = v &&& 0xFFF0#16 ∧
    (∀ p, (g.setRp p v).getRp p = v)

/-! ### 8-bit loads -/

/-- Loads into a register: the bytes, the value, the count, and that nothing else changes (rules R171, R172, R173,
R176, R177, R180, R182, R184, R187, R189). -/
def Obligations.LoadsIntoRegisters : Prop :=
  ∀ s : State,
    let hl := s.regs.h ++ s.regs.l
    (∀ y z : Reg8, encode (Family.ldRR y z) = [BitVec.ofNat 8 (0x40 + 8 * regCode y + regCode z)] ∧
      exec (Family.ldRR y z) s = .next (s.after (s.regs.set y (s.regs.get z)) 4)) ∧
    (∀ (y : Reg8) (n : Byte), encode (Family.ldRN y n) = [BitVec.ofNat 8 (0x06 + 8 * regCode y), n] ∧
      exec (Family.ldRN y n) s = .next (s.after (s.regs.set y n) 8)) ∧
    (∀ y : Reg8, encode (Family.ldRM y) = [BitVec.ofNat 8 (0x46 + 8 * regCode y)] ∧
      exec (Family.ldRM y) s = .next (s.after (s.regs.set y (memRead s s.regs.hl)) 8)) ∧
    (encode .ld_a_atBC = [0x0A#8] ∧
      exec .ld_a_atBC s = .next (s.after { s.regs with a := memRead s (s.regs.b ++ s.regs.c) } 8)) ∧
    (encode .ld_a_atDE = [0x1A#8] ∧
      exec .ld_a_atDE s = .next (s.after { s.regs with a := memRead s (s.regs.d ++ s.regs.e) } 8)) ∧
    (∀ hi lo : Byte, encode (.ld_a_atA16 (hi ++ lo)) = [0xFA#8, lo, hi] ∧
      exec (.ld_a_atA16 (hi ++ lo)) s = .next (s.after { s.regs with a := memRead s (hi ++ lo) } 16)) ∧
    (∀ n : Byte, encode (.ldh_a_atA8 n) = [0xF0#8, n] ∧
      exec (.ldh_a_atA8 n) s = .next (s.after { s.regs with a := memRead s (pageAddress n) } 12)) ∧
    (encode .ld_a_atC = [0xF2#8] ∧
      exec .ld_a_atC s = .next (s.after { s.regs with a := memRead s (pageAddress s.regs.c) } 8)) ∧
    (encode .ld_a_atHLi = [0x2A#8] ∧
      exec .ld_a_atHLi s = .next (s.after { s.regs with
        a := memRead s hl, h := (hl + 1#16).extractLsb' 8 8, l := (hl + 1#16).extractLsb' 0 8 } 8)) ∧
    (encode .ld_a_atHLd = [0x3A#8] ∧
      exec .ld_a_atHLd s = .next (s.after { s.regs with
        a := memRead s hl, h := (hl - 1#16).extractLsb' 8 8, l := (hl - 1#16).extractLsb' 0 8 } 8))

/-- Stores of one byte: the bytes, the address, the value, the count (rules R174, R175, R178, R179, R181, R183, R185, R186, R188).
What the write itself does is said by the statements on memory. -/
def Obligations.StoresFromRegisters : Prop :=
  ∀ s : State,
    let hl := s.regs.h ++ s.regs.l
    (∀ z : Reg8, encode (Family.ldMR z) = [BitVec.ofNat 8 (0x70 + regCode z)] ∧
      exec (Family.ldMR z) s = .next ((memWrite s (s.regs.h ++ s.regs.l) (s.regs.get z)).after s.regs 8)) ∧
    (∀ n : Byte, encode (.ld_atHL_d8 n) = [0x36#8, n] ∧
      exec (.ld_atHL_d8 n) s = .next ((memWrite s (s.regs.h ++ s.regs.l) n).after s.regs 12)) ∧
    (encode .ld_atBC_a = [0x02#8] ∧
      exec .ld_atBC_a s = .next ((memWrite s (s.regs.b ++ s.regs.c) s.regs.a).after s.regs 8)) ∧
    (encode .ld_atDE_a = [0x12#8] ∧
      exec .ld_atDE_a s = .next ((memWrite s (s.regs.d ++ s.regs.e) s.regs.a).after s.regs 8)) ∧
    (∀ hi lo : Byte, encode (.ld_atA16_a (hi ++ lo)) = [0xEA#8, lo, hi] ∧
      exec (.ld_atA16_a (hi ++ lo)) s = .next ((memWrite s (hi ++ lo) s.regs.a).after s.regs 16)) ∧
    (∀ n : Byte, encode (.ldh_atA8_a n) = [0xE0#8, n] ∧
      exec (.ldh_atA8_a n) s = .next ((memWrite s (pageAddress n) s.regs.a).after s.regs 12)) ∧
    (encode .ld_atC_a = [0xE2#8] ∧
      exec .ld_atC_a s = .next ((memWrite s (pageAddress s.regs.c) s.regs.a).after s.regs 8)) ∧
    (encode .ld_atHLi_a = [0x22#8] ∧
      exec .ld_atHLi_a s = .next ((memWrite s hl s.regs.a).after { s.regs with
        h := (hl + 1#16).extractLsb' 8 8, l := (hl + 1#16).extractLsb' 0 8 } 8)) ∧
    (encode .ld_atHLd_a = [0x32#8] ∧
      exec .ld_atHLd_a s = .next ((memWrite s hl s.regs.a).after { s.regs with
        h := (hl - 1#16).extractLsb' 8 8, l := (hl - 1#16).extractLsb' 0 8 } 8))

/-! ### 16-bit loads and the stack -/

/-- 16-bit loads (rules R201 to R204). The flags of `LD HL,SP+e8` are the carries out of bits 3 and 7 of the unsigned
addition of the low bytes. -/
def Obligations.SixteenBitLoads : Prop :=
  ∀ (s : State) (hi lo e : Byte),
    let sum := BitVec.ofInt 16 ((s.regs.sp.toNat : Int) + e.toInt)
    (∀ p : Rp, encode (Family.ldRp p (hi ++ lo)) = [BitVec.ofNat 8 (0x01 + 16 * rpCode p), lo, hi] ∧
      exec (Family.ldRp p (hi ++ lo)) s = .next (s.after (s.regs.setRp p (hi ++ lo)) 12)) ∧
    (encode (.ld_atA16_sp (hi ++ lo)) = [0x08#8, lo, hi] ∧
      exec (.ld_atA16_sp (hi ++ lo)) s = .next ((memWrite (memWrite s (hi ++ lo) (s.regs.sp.extractLsb' 0 8))
        (hi ++ lo + 1#16) (s.regs.sp.extractLsb' 8 8)).after s.regs 20)) ∧
    (encode .ld_sp_hl = [0xF9#8] ∧
      exec .ld_sp_hl s = .next (s.after { s.regs with sp := s.regs.h ++ s.regs.l } 8)) ∧
    (encode (.ld_hl_spe8 e) = [0xF8#8, e] ∧
      exec (.ld_hl_spe8 e) s = .next (s.after { s.regs with
        h := sum.extractLsb' 8 8
        l := sum.extractLsb' 0 8
        f := flags false false (decide (s.regs.sp.toNat % 16 + e.toNat % 16 > 0xF))
          (decide (s.regs.sp.toNat % 256 + e.toNat > 0xFF)) } 12))

/-- `PUSH` and `POP` (rules R205, R206): the high byte is written first, at `SP - 1`, then the low byte at `SP - 2`; a
pop reads the low byte at `SP` and the high byte at `SP + 1`, and `POP AF` stores `F` with its low nibble clear. -/
def Obligations.PushAndPop : Prop :=
  ∀ (s : State) (p : Rp2),
    let v := s.regs.getRp2 p
    let popped := memRead s (s.regs.sp + 1#16) ++ memRead s s.regs.sp
    (encode (Family.push p) = [BitVec.ofNat 8 (0xC5 + 16 * rp2Code p)] ∧
      exec (Family.push p) s = .next ((memWrite (memWrite s (s.regs.sp - 1#16) (v.extractLsb' 8 8))
        (s.regs.sp - 2#16) (v.extractLsb' 0 8)).after { s.regs with sp := s.regs.sp - 2#16 } 16)) ∧
    (encode (Family.pop p) = [BitVec.ofNat 8 (0xC1 + 16 * rp2Code p)] ∧
      exec (Family.pop p) s = .next (s.after ({ s.regs with sp := s.regs.sp + 2#16 }.setRp2 p popped) 12))

/-- What is pushed onto storage is what is popped: `PUSH p` then `POP q` copies the pair `p` to the pair `q` and leaves
`SP` where it was (from rules R200, R205, R206). -/
def Obligations.PopAfterPushGivesThePair : Prop :=
  ∀ (s : State) (p q : Rp2), isStorage s (s.regs.sp - 1#16) = true → isStorage s (s.regs.sp - 2#16) = true →
    ∃ t u, exec (Family.push p) s = .next t ∧ exec (Family.pop q) t = .next u ∧
      memRead t (s.regs.sp - 1#16) = (s.regs.getRp2 p).extractLsb' 8 8 ∧
      memRead t (s.regs.sp - 2#16) = (s.regs.getRp2 p).extractLsb' 0 8 ∧
      u.regs = s.regs.setRp2 q (s.regs.getRp2 p)

/-! ### 8-bit arithmetic -/

/-- `ADD` and `ADC` in their three forms (rules R221, R222). -/
def Obligations.AddAndAdc : Prop :=
  ∀ (s : State) (i : Instr) (bytes : List Byte) (v : Byte) (k : Nat),
    let a := s.regs.a.toNat
    let c : Nat := if s.regs.f.getLsbD 4 then 1 else 0
    (AluForm .add s i bytes v k → encode i = bytes ∧
      exec i s = .next (s.after { s.regs with
        a := BitVec.ofNat 8 (a + v.toNat)
        f := flags (decide ((a + v.toNat) % 256 = 0)) false (decide ((a &&& 0xF) + (v.toNat &&& 0xF) > 0xF))
          (decide (a + v.toNat > 0xFF)) } k)) ∧
    (AluForm .adc s i bytes v k → encode i = bytes ∧
      exec i s = .next (s.after { s.regs with
        a := BitVec.ofNat 8 (a + v.toNat + c)
        f := flags (decide ((a + v.toNat + c) % 256 = 0)) false
          (decide ((a &&& 0xF) + (v.toNat &&& 0xF) + c > 0xF)) (decide (a + v.toNat + c > 0xFF)) } k))

/-- `SUB`, `SBC` and `CP` in their three forms (rules R223, R224, R228). -/
def Obligations.SubSbcAndCp : Prop :=
  ∀ (s : State) (i : Instr) (bytes : List Byte) (v : Byte) (k : Nat),
    let a := s.regs.a.toNat
    let c : Nat := if s.regs.f.getLsbD 4 then 1 else 0
    let sub : Byte :=
      flags (decide (s.regs.a = v)) true (decide ((a &&& 0xF) < (v.toNat &&& 0xF))) (decide (a < v.toNat))
    (AluForm .sub s i bytes v k → encode i = bytes ∧
      exec i s = .next (s.after { s.regs with a := s.regs.a - v, f := sub } k)) ∧
    (AluForm .sbc s i bytes v k → encode i = bytes ∧
      exec i s = .next (s.after { s.regs with
        a := BitVec.ofInt 8 ((a : Int) - v.toNat - c)
        f := flags (decide (((a : Int) - v.toNat - c) % 256 = 0)) true
          (decide ((a &&& 0xF) < (v.toNat &&& 0xF) + c)) (decide (a < v.toNat + c)) } k)) ∧
    (AluForm .cp s i bytes v k → encode i = bytes ∧ exec i s = .next (s.after { s.regs with f := sub } k))

/-- `AND`, `XOR`, `OR` in their three forms (rules R225 to R227), and `CPL`, `SCF`, `CCF` (rules R234 to R236). -/
def Obligations.LogicAndFlagInstructions : Prop :=
  ∀ (s : State) (i : Instr) (bytes : List Byte) (v : Byte) (k : Nat),
    let z := s.regs.f.getLsbD 7
    let c := s.regs.f.getLsbD 4
    (AluForm .and s i bytes v k → encode i = bytes ∧
      exec i s = .next (s.after { s.regs with
        a := s.regs.a &&& v, f := flags (decide (s.regs.a &&& v = 0#8)) false true false } k)) ∧
    (AluForm .xor s i bytes v k → encode i = bytes ∧
      exec i s = .next (s.after { s.regs with
        a := s.regs.a ^^^ v, f := flags (decide (s.regs.a ^^^ v = 0#8)) false false false } k)) ∧
    (AluForm .or s i bytes v k → encode i = bytes ∧
      exec i s = .next (s.after { s.regs with
        a := s.regs.a ||| v, f := flags (decide (s.regs.a ||| v = 0#8)) false false false } k)) ∧
    (encode .cpl = [0x2F#8] ∧
      exec .cpl s = .next (s.after { s.regs with a := s.regs.a ^^^ 0xFF#8, f := flags z true true c } 4)) ∧
    (encode .scf = [0x37#8] ∧ exec .scf s = .next (s.after { s.regs with f := flags z false false true } 4)) ∧
    (encode .ccf = [0x3F#8] ∧ exec .ccf s = .next (s.after { s.regs with f := flags z false false (!c) } 4))

/-- 8-bit `INC` and `DEC`, register and `(HL)`; Carry is kept (rules R229 to R232). -/
def Obligations.IncAndDecKeepCarry : Prop :=
  ∀ s : State,
    let c := s.regs.f.getLsbD 4
    let hl := s.regs.h ++ s.regs.l
    let up := fun v : Byte => flags (decide (v + 1#8 = 0#8)) false (decide (v &&& 0xF#8 = 0xF#8)) c
    let down := fun v : Byte => flags (decide (v - 1#8 = 0#8)) true (decide (v &&& 0xF#8 = 0#8)) c
    (∀ y : Reg8, encode (Family.incR y) = [BitVec.ofNat 8 (0x04 + 8 * regCode y)] ∧
      exec (Family.incR y) s =
        .next (s.after { s.regs.set y (s.regs.get y + 1#8) with f := up (s.regs.get y) } 4)) ∧
    (∀ y : Reg8, encode (Family.decR y) = [BitVec.ofNat 8 (0x05 + 8 * regCode y)] ∧
      exec (Family.decR y) s =
        .next (s.after { s.regs.set y (s.regs.get y - 1#8) with f := down (s.regs.get y) } 4)) ∧
    (encode .inc_atHL = [0x34#8] ∧
      exec .inc_atHL s =
        .next ((memWrite s hl (memRead s hl + 1#8)).after { s.regs with f := up (memRead s hl) } 12)) ∧
    (encode .dec_atHL = [0x35#8] ∧
      exec .dec_atHL s =
        .next ((memWrite s hl (memRead s hl - 1#8)).after { s.regs with f := down (memRead s hl) } 12))

/-- `DAA` (rule R233): both tests of the addition branch look at `A` before any adjustment. -/
def Obligations.DaaFollowsItsTwoBranches : Prop :=
  ∀ s : State,
    let a := s.regs.a
    let n := s.regs.f.getLsbD 6
    let h := s.regs.f.getLsbD 5
    let c := s.regs.f.getLsbD 4
    let low : Byte := if h = true ∨ (n = false ∧ (a &&& 0x0F#8) > 0x09#8) then 0x06#8 else 0x00#8
    let step := c = true ∨ (n = false ∧ a > 0x99#8)
    let high : Byte := if step then 0x60#8 else 0x00#8
    let r : Byte := if n = true then a - (low + high) else a + (low + high)
    encode .daa = [0x27#8] ∧
      exec .daa s = .next (s.after { s.regs with a := r, f := flags (decide (r = 0#8)) n false (decide step) } 4)

/-- After `ADC A,B` or `SBC A,B` on two valid packed-decimal bytes, `DAA` leaves the decimal sum or difference modulo
100, and Carry is the decimal carry or borrow (from rules R222, R224, R233 and property S8). -/
def Obligations.DaaAdjustsDecimalSumsAndDifferences : Prop :=
  ∀ (s : State) (x y : Nat), x < 100 → y < 100 →
    let bcd := fun k : Nat => BitVec.ofNat 8 (16 * (k / 10) + k % 10)
    let c : Nat := if s.regs.f.getLsbD 4 then 1 else 0
    s.regs.a = bcd x → s.regs.b = bcd y →
      (∃ t u, exec .adc_a_b s = .next t ∧ exec .daa t = .next u ∧ u.regs.a = bcd ((x + y + c) % 100) ∧
        u.regs.f.getLsbD 4 = decide (100 ≤ x + y + c)) ∧
      (∃ t u, exec .sbc_a_b s = .next t ∧ exec .daa t = .next u ∧ u.regs.a = bcd ((x + 100 - y - c) % 100) ∧
        u.regs.f.getLsbD 4 = decide (x < y + c))

/-! ### 16-bit arithmetic -/

/-- 16-bit arithmetic (rules R261 to R264): `ADD HL,rp` keeps Zero, 16-bit `INC` and `DEC` write no flag. -/
def Obligations.SixteenBitArithmetic : Prop :=
  ∀ (s : State) (e : Byte),
    let hl := s.regs.h ++ s.regs.l
    (∀ p : Rp,
      let v := s.regs.getRp p
      (encode (Family.addHl p) = [BitVec.ofNat 8 (0x09 + 16 * rpCode p)] ∧
        exec (Family.addHl p) s = .next (s.after { s.regs with
          h := (hl + v).extractLsb' 8 8
          l := (hl + v).extractLsb' 0 8
          f := flags (s.regs.f.getLsbD 7) false (decide ((hl.toNat &&& 0xFFF) + (v.toNat &&& 0xFFF) > 0xFFF))
            (decide (hl.toNat + v.toNat > 0xFFFF)) } 8)) ∧
      (encode (Family.incRp p) = [BitVec.ofNat 8 (0x03 + 16 * rpCode p)] ∧
        exec (Family.incRp p) s = .next (s.after (s.regs.setRp p (v + 1#16)) 8)) ∧
      (encode (Family.decRp p) = [BitVec.ofNat 8 (0x0B + 16 * rpCode p)] ∧
        exec (Family.decRp p) s = .next (s.after (s.regs.setRp p (v - 1#16)) 8))) ∧
    (encode (.add_sp_e8 e) = [0xE8#8, e] ∧
      exec (.add_sp_e8 e) s = .next (s.after { s.regs with
        sp := BitVec.ofInt 16 ((s.regs.sp.toNat : Int) + e.toInt)
        f := flags false false (decide (s.regs.sp.toNat % 16 + e.toNat % 16 > 0xF))
          (decide (s.regs.sp.toNat % 256 + e.toNat > 0xFF)) } 16))

/-! ### Rotates, shifts, bits -/

/-- The accumulator rotates (rules R270 to R273) always clear Zero; the extended page sets it from the result, for a
register and for `(HL)` (rules R274 to R282). -/
def Obligations.RotatesAndShifts : Prop :=
  ∀ s : State,
    let a := s.regs.a
    let c := s.regs.f.getLsbD 4
    let hl := s.regs.h ++ s.regs.l
    (encode .rlca = [0x07#8] ∧ exec .rlca s = .next (s.after { s.regs with
      a := a <<< 1 ||| bitByte (a.getLsbD 7), f := flags false false false (a.getLsbD 7) } 4)) ∧
    (encode .rrca = [0x0F#8] ∧ exec .rrca s = .next (s.after { s.regs with
      a := a >>> 1 ||| bitByte (a.getLsbD 0) <<< 7, f := flags false false false (a.getLsbD 0) } 4)) ∧
    (encode .rla = [0x17#8] ∧ exec .rla s = .next (s.after { s.regs with
      a := a <<< 1 ||| bitByte c, f := flags false false false (a.getLsbD 7) } 4)) ∧
    (encode .rra = [0x1F#8] ∧ exec .rra s = .next (s.after { s.regs with
      a := a >>> 1 ||| bitByte c <<< 7, f := flags false false false (a.getLsbD 0) } 4)) ∧
    (∀ (op : RotOp) (z : Reg8),
      let r := shiftResult op (s.regs.get z) c
      encode (Family.rotR op z) = [0xCB#8, BitVec.ofNat 8 (8 * rotCode op + regCode z)] ∧
      exec (Family.rotR op z) s = .next (s.after { s.regs.set z r with
        f := flags (decide (r = 0#8)) false false (shiftOut op (s.regs.get z)) } 8)) ∧
    (∀ op : RotOp,
      let r := shiftResult op (memRead s hl) c
      encode (Family.rotM op) = [0xCB#8, BitVec.ofNat 8 (8 * rotCode op + 6)] ∧
      exec (Family.rotM op) s = .next ((memWrite s hl r).after { s.regs with
        f := flags (decide (r = 0#8)) false false (shiftOut op (memRead s hl)) } 16))

/-- `BIT`, `RES` and `SET` on a register and on `(HL)` (rules R283 to R285): `BIT` writes only flags and keeps Carry,
`RES` and `SET` write no flag. -/
def Obligations.BitTestResetSet : Prop :=
  ∀ (s : State) (b : Oct),
    let k := octNat b
    let c := s.regs.f.getLsbD 4
    let hl := s.regs.h ++ s.regs.l
    (∀ z : Reg8,
      let v := s.regs.get z
      (encode (Family.bitR b z) = [0xCB#8, BitVec.ofNat 8 (0x40 + 8 * k + regCode z)] ∧
        exec (Family.bitR b z) s = .next (s.after { s.regs with f := flags (!v.getLsbD k) false true c } 8)) ∧
      (encode (Family.resR b z) = [0xCB#8, BitVec.ofNat 8 (0x80 + 8 * k + regCode z)] ∧
        exec (Family.resR b z) s = .next (s.after (s.regs.set z (v &&& ~~~ (1#8 <<< k))) 8)) ∧
      (encode (Family.setR b z) = [0xCB#8, BitVec.ofNat 8 (0xC0 + 8 * k + regCode z)] ∧
        exec (Family.setR b z) s = .next (s.after (s.regs.set z (v ||| 1#8 <<< k)) 8))) ∧
    (encode (Family.bitM b) = [0xCB#8, BitVec.ofNat 8 (0x46 + 8 * k)] ∧
      exec (Family.bitM b) s =
        .next (s.after { s.regs with f := flags (!(memRead s hl).getLsbD k) false true c } 12)) ∧
    (encode (Family.resM b) = [0xCB#8, BitVec.ofNat 8 (0x86 + 8 * k)] ∧
      exec (Family.resM b) s = .next ((memWrite s hl (memRead s hl &&& ~~~ (1#8 <<< k))).after s.regs 16)) ∧
    (encode (Family.setM b) = [0xCB#8, BitVec.ofNat 8 (0xC6 + 8 * k)] ∧
      exec (Family.setM b) s = .next ((memWrite s hl (memRead s hl ||| 1#8 <<< k)).after s.regs 16))

/-! ### Control transfer -/

/-- Jumps (rules R301 to R305): a condition that is false leaves `PC` past the instruction, in fewer cycles. -/
def Obligations.JumpsAbsoluteAndRelative : Prop :=
  ∀ (s : State) (hi lo e : Byte) (k : Cond),
    let rel := BitVec.ofInt 16 ((s.regs.pc.toNat : Int) + e.toInt)
    (encode (.jp_a16 (hi ++ lo)) = [0xC3#8, lo, hi] ∧
      exec (.jp_a16 (hi ++ lo)) s = .next (s.after { s.regs with pc := hi ++ lo } 16)) ∧
    (encode .jp_hl = [0xE9#8] ∧
      exec .jp_hl s = .next (s.after { s.regs with pc := s.regs.h ++ s.regs.l } 4)) ∧
    (encode (.jr_e8 e) = [0x18#8, e] ∧ exec (.jr_e8 e) s = .next (s.after { s.regs with pc := rel } 12)) ∧
    encode (Family.jpCc k (hi ++ lo)) = [BitVec.ofNat 8 (0xC2 + 8 * ccCode k), lo, hi] ∧
    encode (Family.jrCc k e) = [BitVec.ofNat 8 (0x20 + 8 * ccCode k), e] ∧
    (condHolds k s.regs.f →
      exec (Family.jpCc k (hi ++ lo)) s = .next (s.after { s.regs with pc := hi ++ lo } 16) ∧
      exec (Family.jrCc k e) s = .next (s.after { s.regs with pc := rel } 12)) ∧
    (¬ condHolds k s.regs.f →
      exec (Family.jpCc k (hi ++ lo)) s = .next (s.after s.regs 12) ∧
      exec (Family.jrCc k e) s = .next (s.after s.regs 8))

/-- Calls (rules R306, R307, R311): the address of the next instruction is pushed, high byte first. -/
def Obligations.CallsAndRestarts : Prop :=
  ∀ (s : State) (hi lo : Byte) (k : Cond) (y : Oct),
    let pushed := memWrite (memWrite s (s.regs.sp - 1#16) (s.regs.pc.extractLsb' 8 8)) (s.regs.sp - 2#16)
      (s.regs.pc.extractLsb' 0 8)
    let entered := fun a : Word => { s.regs with sp := s.regs.sp - 2#16, pc := a }
    (encode (.call_a16 (hi ++ lo)) = [0xCD#8, lo, hi] ∧
      exec (.call_a16 (hi ++ lo)) s = .next (pushed.after (entered (hi ++ lo)) 24)) ∧
    encode (Family.callCc k (hi ++ lo)) = [BitVec.ofNat 8 (0xC4 + 8 * ccCode k), lo, hi] ∧
    (condHolds k s.regs.f →
      exec (Family.callCc k (hi ++ lo)) s = .next (pushed.after (entered (hi ++ lo)) 24)) ∧
    (¬ condHolds k s.regs.f → exec (Family.callCc k (hi ++ lo)) s = .next (s.after s.regs 12)) ∧
    (encode (Family.rst y) = [BitVec.ofNat 8 (0xC7 + 8 * octNat y)] ∧
      exec (Family.rst y) s = .next (pushed.after (entered (BitVec.ofNat 16 (8 * octNat y))) 16))

/-- Returns (rules R308 to R310): `RETI` sets `IME` at once and restores nothing but `PC`. -/
def Obligations.ReturnsFromCallsAndInterrupts : Prop :=
  ∀ (s : State) (k : Cond),
    let back : Regs :=
      { s.regs with sp := s.regs.sp + 2#16, pc := memRead s (s.regs.sp + 1#16) ++ memRead s s.regs.sp }
    (encode .ret = [0xC9#8] ∧ exec .ret s = .next (s.after back 16)) ∧
    encode (Family.retCc k) = [BitVec.ofNat 8 (0xC0 + 8 * ccCode k)] ∧
    (condHolds k s.regs.f → exec (Family.retCc k) s = .next (s.after back 20)) ∧
    (¬ condHolds k s.regs.f → exec (Family.retCc k) s = .next (s.after s.regs 8)) ∧
    (encode .reti = [0xD9#8] ∧
      exec .reti s = .next { s with regs := back, run := { s.run with ime := true, eiDelay := .zero, cycles := 16 } })

/-! ### System instructions -/

/-- `NOP`, `HALT`, `STOP`, `DI`, `EI` (rules R330 to R334): the instruction's own effect; the second byte of `STOP` is
ignored. The eleven unassigned opcodes (rule R336) are one byte each, cost 4 cycles, and lock the CPU or do nothing, by
`ILLEGAL_POLICY`. -/
def Obligations.SystemInstructions : Prop :=
  ∀ (s : State) (n : Byte) (u : Unassigned),
    (encode .nop = [0x00#8] ∧ exec .nop s = .next (s.after s.regs 4)) ∧
    (encode .halt = [0x76#8] ∧ exec .halt s = .next { s with run := { s.run with halted := true, cycles := 4 } }) ∧
    (encode (.stop n) = [0x10#8, n] ∧
      exec (.stop n) s =
        if s.cfg.gen = .two ∧ s.run.speedArmed = true then
          .next { s with run := { s.run with ds := !s.run.ds, speedArmed := false, cycles := 4 } }
        else .next { s with run := { s.run with halted := true, cycles := 4 } }) ∧
    (encode .di = [0xF3#8] ∧
      exec .di s = .next { s with run := { s.run with ime := false, eiDelay := .zero, cycles := 4 } }) ∧
    (encode .ei = [0xFB#8] ∧ exec .ei s = .next { s with run := { s.run with eiDelay := .two, cycles := 4 } }) ∧
    encode (Family.illegal u) = [unassignedByte u] ∧
    exec (Family.illegal u) s =
      match s.cfg.illegalPolicy with
      | .lock => .next { s with run := { s.run with locked := true, cycles := 4 } }
      | .nop => .next (s.after s.regs 4)

/-- The table's row for the prefix byte alone: run by itself it fetches the next byte and runs the extended-page
instruction that byte selects. This is the model's reading of that row (log entry 11); the decoder never answers it
(rules R152, R335). -/
def Obligations.PrefixRowRunsTheExtendedPage : Prop :=
  (∀ s : State, ∃ t, exec .cb_page s = .next t ∧
    exec (decodeExt (memRead s s.regs.pc)) { s with regs := { s.regs with pc := s.regs.pc + 1#16 } } = .next t) ∧
  ∀ op n1 n2 : Byte, decodeBytes op n1 n2 ≠ .cb_page

/-! ### Frames -/

/-- A form that stores nothing (each is named in `StoresNothing`) changes registers and run state only, and every byte
of memory reads as before. `STOP` stores nothing either: every byte but `KEY1` reads as before. -/
def Obligations.FormsThatStoreNothingLeaveMemory : Prop :=
  ∀ (s t : State) (i : Instr),
    (StoresNothing s i → exec i s = .next t →
      t = { s with regs := t.regs, run := t.run } ∧ t.run.ds = s.run.ds ∧ t.run.speedArmed = s.run.speedArmed ∧
      ∀ a, memRead t a = memRead s a) ∧
    (∀ n, exec (.stop n) s = .next t →
      t = { s with run := t.run } ∧ ∀ a, a ≠ 0xFF4D#16 → memRead t a = memRead s a)

/-- A form that stores one byte (each is named in `StoresByte` with its address and its value) completes, and where the
address is storage that byte reads back and every address that is not the same cell reads as before. The same for the
forms that store two bytes (`StoresWord`: the lower address and the word), low byte at the lower address. No register
of a device, no bank selector and no run state but the count changes. -/
def Obligations.FormsThatStoreChangeOnlyTheirCells : Prop :=
  let quiet := fun s t : State => t.run = { s.run with cycles := t.run.cycles } ∧ t.irq = s.irq ∧ t.lcd = s.lcd ∧
    t.dma = s.dma ∧ t.tim = s.tim ∧ t.pad = s.pad ∧ t.host = s.host ∧ t.cart = { s.cart with eram := t.cart.eram } ∧
    t.ram.vramBank = s.ram.vramBank ∧ t.ram.wramSel = s.ram.wramSel
  (∀ (s : State) (i : Instr) (a : Word) (v : Byte), StoresByte s i a v → isStorage s a = true →
    ∃ t, exec i s = .next t ∧ quiet s t ∧ ∀ b, memRead t b = if place s b = place s a then v else memRead s b) ∧
  (∀ (s : State) (i : Instr) (a v : Word), StoresWord s i a v → isStorage s a = true → isStorage s (a + 1#16) = true →
    ∃ t, exec i s = .next t ∧ quiet s t ∧
      ∀ b, memRead t b =
        if place s b = place s a then v.extractLsb' 0 8
        else if place s b = place s (a + 1#16) then v.extractLsb' 8 8
        else memRead s b)

/-! ### `CPU.step` and interrupts -/

/-- When the bytes at `PC` decode to a well-formed instruction, the CPU is running and no interrupt is taken, a step
runs that instruction with `PC` past its bytes, counts the `EI` delay down, and lets the other agents act (rules R24,
R137, R451). -/
def Obligations.StepRunsTheDecodedInstruction : Prop :=
  ∀ (s : State) (i : Instr) (rest : List Byte), s.run.locked = false → s.run.halted = false → noDispatch s →
    decode [memRead s s.regs.pc, memRead s (s.regs.pc + 1#16), memRead s (s.regs.pc + 2#16)] = .ok (i, rest) →
    i.wf = true ∧
    ∃ t, exec i { s with regs := { s.regs with pc := s.regs.pc + BitVec.ofNat 16 (encode i).length } } = .next t ∧
      step s = .next (devices (eiCountdown t))

/-- Trap entry (rules R446, R447, R453, R454, R458): with `IME` set, the first enabled and pending source in priority
order is taken, whatever else is pending; its bit is cleared, `PC` is pushed high byte first, `PC` goes to
`0x0040 + 8 * n`, `IME`, `ei_delay` and `halted` are cleared, the step costs 20, and nothing else changes but what
the two pushes write. -/
def Obligations.InterruptEntrySavesThePc : Prop :=
  ∀ (s : State) (n : Source), s.run.locked = false → s.run.ime = true → taken s n →
    let cleared : State := { s with irq := { s.irq with iflag := s.irq.iflag &&& ~~~ (1#5 <<< n.bitIndex) } }
    let pushed := memWrite (memWrite cleared (s.regs.sp - 1#16) (s.regs.pc.extractLsb' 8 8)) (s.regs.sp - 2#16)
      (s.regs.pc.extractLsb' 0 8)
    cpuStep s = .next { pushed with
      regs := { s.regs with sp := s.regs.sp - 2#16, pc := BitVec.ofNat 16 (0x0040 + 8 * n.bitIndex) }
      run := { pushed.run with ime := false, eiDelay := .zero, halted := false, cycles := 20 } }

/-- A locked CPU returns 4 and changes nothing (rule R449). A halted CPU with nothing enabled and pending returns 4 and
changes nothing; any enabled and pending source ends the halt, and with `IME` clear, or with only the serial bit
pending, the same step executes the instruction at `PC`, and otherwise the step is an interrupt entry, of 20 (rules
R448, R452). -/
def Obligations.LockedHaltedAndWokenSteps : Prop :=
  ∀ s : State,
    (s.run.locked = true → cpuStep s = .next (s.after s.regs 4)) ∧
    (s.run.locked = false → s.run.halted = true → (∀ n, ¬ wanted s n) → cpuStep s = .next (s.after s.regs 4)) ∧
    (s.run.locked = false → s.run.halted = true → (∃ n, wanted s n) → noDispatch s →
      ∃ t, exec (fetchInstr s) { s with
          regs := { s.regs with pc := s.regs.pc + BitVec.ofNat 16 (fetchInstr s).length }
          run := { s.run with halted := false } } = .next t ∧
        cpuStep s = .next (eiCountdown t)) ∧
    (s.run.locked = false → s.run.halted = true → s.run.ime = true → (∃ n, taken s n) →
      ∃ t, cpuStep s = .next t ∧ t.run.cycles = 20 ∧ t.run.halted = false)

/-- The `EI` delay (rules R334, R450): the step that runs `EI` ends with the count at 1 and `IME` as it was; the step
that runs the instruction after it ends with the count at 0 and `IME` set, unless that instruction wrote the count. A
locked or halted step leaves the count, a dispatch clears it. -/
def Obligations.EiTakesEffectOneInstructionLater : Prop :=
  (∀ s : State, s.run.locked = false → s.run.halted = false → noDispatch s → memRead s s.regs.pc = 0xFB#8 →
    cpuStep s = .next { s with
      regs := { s.regs with pc := s.regs.pc + 1#16 }, run := { s.run with eiDelay := .one, cycles := 4 } }) ∧
  (∀ s t : State, s.run.locked = false → s.run.halted = false → noDispatch s →
    exec (fetchInstr s) { s with
      regs := { s.regs with pc := s.regs.pc + BitVec.ofNat 16 (fetchInstr s).length } } = .next t →
    cpuStep s = .next { t with run := { t.run with
      ime := if t.run.eiDelay = .one then true else t.run.ime
      eiDelay := if t.run.eiDelay = .two then .one else .zero } }) ∧
  (∀ s t : State, cpuStep s = .next t →
    ((s.run.locked = true ∨ s.run.halted = true ∧ ∀ n, ¬ wanted s n) →
      t.run.eiDelay = s.run.eiDelay ∧ t.run.ime = s.run.ime) ∧
    (s.run.locked = false → s.run.ime = true → (∃ n, taken s n) → t.run.eiDelay = .zero ∧ t.run.ime = false))

/-- The pixel processor, the Timer and the Host change no register, no run state, no bank selector, no enable, no
array but video RAM and the frame buffer; they only ever set bits of `IF` (rules R350, R444, R465, R470). -/
def Obligations.DevicesLeaveTheCpuAlone : Prop :=
  ∀ s : State,
    let t := devices s
    t.cfg = s.cfg ∧ t.regs = s.regs ∧ t.run = s.run ∧ t.cart = s.cart ∧ t.irq.ie = s.irq.ie ∧
    t.irq.statEnable = s.irq.statEnable ∧ s.irq.iflag &&& t.irq.iflag = s.irq.iflag ∧
    t.irq.iflag.getLsbD 3 = s.irq.iflag.getLsbD 3 ∧
    t.ram = { s.ram with vram := t.ram.vram } ∧ t.dma.port = s.dma.port ∧
    t.lcd = { s.lcd with
      ly := t.lcd.ly, mode := t.lcd.mode, counter := t.lcd.counter, wlc := t.lcd.wlc, fb := t.lcd.fb } ∧
    t.tim.tma = s.tim.tma ∧ t.tim.tac = s.tim.tac ∧ t.pad.select = s.pad.select

/-! ### Memory -/

/-- What a read answers and what a write does in each region (rules R82 to R89): storage changes one cell, the echo region
is the address 0x2000 below, and disabled or absent external RAM and the unusable range answer the sentinel and drop the
write. -/
def Obligations.AccessesByRegion : Prop :=
  ∀ (s : State) (a : Word) (v : Byte),
    let n := a.toNat
    let r := s.ram
    let vbank := if s.cfg.gen = .two then s.ram.vramBank.toNat else 0
    let wbank := if s.cfg.gen = .two ∧ s.ram.wramSel ≠ 0#3 then s.ram.wramSel.toNat else 1
    let cell := (s.cart.ramBank.toNat &&& (ramBanks s.cfg - 1)) * 0x2000 + (n - 0xA000)
    (n < 0x4000 → memRead s a = Memory.read (w := 8) s.cfg.rom n) ∧
    (0x4000 ≤ n → n < 0x8000 →
      memRead s a = Memory.read (w := 8) s.cfg.rom (s.cart.romBank.toNat * 0x4000 + (n - 0x4000))) ∧
    (0x8000 ≤ n → n < 0xA000 → memRead s a = r.vram.read (vbank * 0x2000 + (n - 0x8000)) ∧
      memWrite s a v = { s with ram := { r with vram := r.vram.write (vbank * 0x2000 + (n - 0x8000)) v } }) ∧
    (0xA000 ≤ n → n < 0xC000 → s.cart.ramEnable = true → 0 < ramBanks s.cfg → memRead s a = s.cart.eram.read cell ∧
      memWrite s a v = { s with cart := { s.cart with eram := s.cart.eram.write cell v } }) ∧
    (0xA000 ≤ n → n < 0xC000 → (s.cart.ramEnable = false ∨ ramBanks s.cfg = 0) →
      memRead s a = s.cfg.openBus ∧ memWrite s a v = s) ∧
    (0xC000 ≤ n → n < 0xD000 → memRead s a = r.wram.read (n - 0xC000) ∧
      memWrite s a v = { s with ram := { r with wram := r.wram.write (n - 0xC000) v } }) ∧
    (0xD000 ≤ n → n < 0xE000 → memRead s a = r.wram.read (wbank * 0x1000 + (n - 0xD000)) ∧
      memWrite s a v = { s with ram := { r with wram := r.wram.write (wbank * 0x1000 + (n - 0xD000)) v } }) ∧
    (0xE000 ≤ n → n < 0xFE00 → memRead s a = memRead s (a - 0x2000#16) ∧
      memWrite s a v = memWrite s (a - 0x2000#16) v) ∧
    (0xFE00 ≤ n → n < 0xFEA0 → memRead s a = r.oam.read (n - 0xFE00) ∧
      memWrite s a v = { s with ram := { r with oam := r.oam.write (n - 0xFE00) v } }) ∧
    (0xFEA0 ≤ n → n < 0xFF00 → memRead s a = s.cfg.openBus ∧ memWrite s a v = s)

/-- A store to storage is what every later read of that cell gives, under every address of the cell, and every other
address reads as before (rule R80, with rules R84 to R88 and R100). -/
def Obligations.ReadAfterWrite : Prop :=
  ∀ (s : State) (a b : Word) (v : Byte), isStorage s a = true →
    memRead (memWrite s a v) b = if place s b = place s a then v else memRead s b

/-- No write and no step ever changes `ROM` or the rest of the configuration; a write below 0x8000 changes mapper state
only (rules R30, R73, R110). -/
def Obligations.RomNeverChanges : Prop :=
  (∀ (s : State) (a : Word) (v : Byte), a.toNat < 0x8000 →
    ∃ c, memWrite s a v = { s with cart := c } ∧ c.eram = s.cart.eram) ∧
  (∀ (s : State) (a : Word) (v : Byte), (memWrite s a v).cfg = s.cfg) ∧
  (∀ s t : State, step s = .next t → t.cfg = s.cfg)

/-- The four mappers, range by range (rules R111 to R117). -/
def Obligations.MapperWriteRules : Prop :=
  ∀ (s : State) (a : Word) (w : Byte), a.toNat < 0x8000 →
    let n := a.toNat
    let c := s.cart
    let mask := romBanks s.cfg - 1
    let put := fun k : Cart => ({ s with cart := k } : State)
    let ramEnable := put { c with ramEnable := decide (w &&& 0x0F#8 = 0x0A#8) }
    let rom := fun k : Nat => put { c with romBank := BitVec.ofNat 9 (k &&& mask) }
    let low := fun m : Nat => if w.toNat &&& m = 0 then 1 else w.toNat &&& m
    (s.cfg.mapper = .variant1 →
      (n < 0x2000 → memWrite s a w = ramEnable) ∧
      (0x2000 ≤ n → n < 0x4000 → memWrite s a w = rom ((c.romBank.toNat &&& 0x60) ||| low 0x1F)) ∧
      (0x4000 ≤ n → n < 0x6000 → c.bankMode = true → memWrite s a w = put { c with ramBank := w.setWidth 4 &&& 3#4 }) ∧
      (0x4000 ≤ n → n < 0x6000 → c.bankMode = false →
        memWrite s a w = rom ((c.romBank.toNat &&& 0x1F) ||| (w.toNat &&& 0x03) <<< 5)) ∧
      (0x6000 ≤ n → w.getLsbD 0 = true → memWrite s a w = put { c with bankMode := true }) ∧
      (0x6000 ≤ n → w.getLsbD 0 = false → memWrite s a w = put { c with bankMode := false, ramBank := 0#4 })) ∧
    (s.cfg.mapper = .variant2 →
      (n < 0x2000 → a.getLsbD 8 = false → memWrite s a w = ramEnable) ∧
      (n < 0x4000 → a.getLsbD 8 = true → memWrite s a w = rom (low 0x0F)) ∧
      (0x2000 ≤ n → n < 0x4000 → a.getLsbD 8 = false → memWrite s a w = s) ∧
      (0x4000 ≤ n → memWrite s a w = s)) ∧
    (s.cfg.mapper = .variant3 →
      (n < 0x2000 → memWrite s a w = ramEnable) ∧
      (0x2000 ≤ n → n < 0x4000 → memWrite s a w = rom (low 0x7F)) ∧
      (0x4000 ≤ n → n < 0x6000 → memWrite s a w = put { c with ramBank := w.setWidth 4 }) ∧
      (0x6000 ≤ n → memWrite s a w = s)) ∧
    (s.cfg.mapper = .variant4 →
      (n < 0x2000 → memWrite s a w = ramEnable) ∧
      (0x2000 ≤ n → n < 0x3000 → memWrite s a w = rom ((c.romBank.toNat &&& 0x100) ||| w.toNat)) ∧
      (0x3000 ≤ n → n < 0x4000 → memWrite s a w = rom ((c.romBank.toNat &&& 0x0FF) ||| (w.toNat &&& 1) <<< 8)) ∧
      (0x4000 ≤ n → n < 0x6000 → memWrite s a w = put { c with ramBank := w.setWidth 4 }) ∧
      (0x6000 ≤ n → memWrite s a w = s))

/-- "mapper variants 1–3 reinterpret a written bank index of 0 as bank 1; mapper variant 4 accepts bank 0 literally",
for every bank count, in the whole range of each mapper's bank register, and the bank a write sets is below `ROM_BANKS`
(rule R118). Variant 1 keeps its two upper bank bits, variant 4 its bit 8. "A nonzero written value whose bits below
the mask are all zero does select bank 0", for every such value and mask. -/
def Obligations.BankZeroIsRedirectedOnThreeMappers : Prop :=
  ∀ (s : State) (a : Word) (w : Byte),
    let n := a.toNat
    let old := s.cart.romBank.toNat
    let new := (memWrite s a w).cart.romBank
    let written := fun field : Nat => w.toNat &&& field
    let lost := fun field : Nat => written field ≠ 0 ∧ written field &&& (romBanks s.cfg - 1) = 0
    (new = s.cart.romBank ∨ new.toNat < romBanks s.cfg) ∧
    (s.cfg.mapper = .variant1 → 0x2000 ≤ n → n < 0x4000 →
      (written 0x1F = 0 → new.toNat % 32 = 1 ∧ (old &&& 0x60 = 0 → new = 1#9)) ∧
      (lost 0x1F → new = 0#9)) ∧
    (s.cfg.mapper = .variant2 → n < 0x4000 → a.getLsbD 8 = true →
      (written 0x0F = 0 → new = 1#9) ∧ (lost 0x0F → new = 0#9)) ∧
    (s.cfg.mapper = .variant3 → 0x2000 ≤ n → n < 0x4000 →
      (written 0x7F = 0 → new = 1#9) ∧ (lost 0x7F → new = 0#9)) ∧
    (s.cfg.mapper = .variant4 → 0x2000 ≤ n → n < 0x3000 →
      (written 0xFF = 0 → new.toNat % 256 = 0 ∧ (old &&& 0x100 = 0 → new = 0#9)) ∧
      (lost 0xFF → new = 0#9))

/-! ### The register page -/

/-- What a register of the page reads as after a byte has been written to it (rules R32 to R42, R44 to R46, R48, R50,
R51, R91, R466): fixed bits read as the rules say, whatever was written. The whole state after a write to each register
that has no effect beyond its own storage (the Timer's, `LYC`, `DMA` and `HDMA5` have statements of their own). And every
other address of the page is a plain byte (rules R90, R100). -/
def Obligations.PageRegisterWritesAndReads : Prop :=
  (∀ (s : State) (v : Byte),
    let back := fun a : Word => memRead (memWrite s a v) a
    (∀ a ∈ [0xFF05#16, 0xFF06#16, 0xFF40#16, 0xFF42#16, 0xFF43#16, 0xFF45#16, 0xFF46#16, 0xFF47#16, 0xFF48#16,
      0xFF49#16, 0xFF4A#16, 0xFF4B#16, 0xFFFF#16], back a = v) ∧
    back 0xFF04#16 = 0#8 ∧
    back 0xFF07#16 = 0xF8#8 ||| (v &&& 0x07#8) ∧
    back 0xFF0F#16 = 0xE0#8 ||| (v &&& 0x1F#8) ∧
    back 0xFF41#16 = 0x80#8 ||| (v &&& 0x78#8) ||| (memRead s 0xFF41#16 &&& 0x07#8) ∧
    back 0xFF44#16 = s.lcd.ly ∧
    back 0xFF00#16 = 0xC0#8 ||| (v &&& 0x30#8) ||| (0x0F#8 &&& ~~~ (
      (if v.getLsbD 4 = false then s.pad.inputMask &&& 0x0F#8 else 0#8) |||
      (if v.getLsbD 5 = false then s.pad.inputMask >>> 4 else 0#8))) ∧
    (s.cfg.gen = .two →
      back 0xFF4D#16 = bitByte s.run.ds <<< 7 ||| 0x7E#8 ||| (v &&& 0x01#8) ∧
      back 0xFF4F#16 = 0xFE#8 ||| (v &&& 0x01#8) ∧
      back 0xFF68#16 = 0x40#8 ||| (v &&& 0xBF#8) ∧
      back 0xFF6A#16 = 0x40#8 ||| (v &&& 0xBF#8) ∧
      memRead s 0xFF69#16 = s.lcd.bgPal.read s.lcd.bgIdx.toNat ∧
      memRead s 0xFF6B#16 = s.lcd.objPal.read s.lcd.objIdx.toNat ∧
      back 0xFF6C#16 = 0xFE#8 ||| (v &&& 0x01#8) ∧
      back 0xFF70#16 = 0xF8#8 ||| (v &&& 0x07#8) ∧
      (∀ a ∈ [0xFF51#16, 0xFF52#16, 0xFF53#16, 0xFF54#16], back a = s.cfg.openBus)) ∧
    (s.cfg.gen = .one →
      ∀ a ∈ [0xFF4D#16, 0xFF4F#16, 0xFF51#16, 0xFF52#16, 0xFF53#16, 0xFF54#16, 0xFF55#16, 0xFF68#16, 0xFF69#16,
        0xFF6A#16, 0xFF6B#16, 0xFF6C#16, 0xFF70#16], back a = v)) ∧
  (∀ (s : State) (v : Byte),
    memWrite s 0xFF44#16 v = s ∧
    memWrite s 0xFFFF#16 v = { s with irq := { s.irq with ie := v } } ∧
    memWrite s 0xFF0F#16 v = { s with irq := { s.irq with iflag := v.setWidth 5 } } ∧
    memWrite s 0xFF41#16 v = { s with irq := { s.irq with statEnable := (v >>> 3).setWidth 4 } } ∧
    memWrite s 0xFF00#16 v = { s with pad := { s.pad with select := (v >>> 4).setWidth 2 } } ∧
    memWrite s 0xFF40#16 v = { s with lcd := { s.lcd with lcdc := v } } ∧
    memWrite s 0xFF42#16 v = { s with lcd := { s.lcd with scy := v } } ∧
    memWrite s 0xFF43#16 v = { s with lcd := { s.lcd with scx := v } } ∧
    memWrite s 0xFF47#16 v = { s with lcd := { s.lcd with bgp := v } } ∧
    memWrite s 0xFF48#16 v = { s with lcd := { s.lcd with obp0 := v } } ∧
    memWrite s 0xFF49#16 v = { s with lcd := { s.lcd with obp1 := v } } ∧
    memWrite s 0xFF4A#16 v = { s with lcd := { s.lcd with wy := v } } ∧
    memWrite s 0xFF4B#16 v = { s with lcd := { s.lcd with wx := v } } ∧
    (s.cfg.gen = .two →
      memWrite s 0xFF51#16 v = { s with dma := { s.dma with src := v ++ s.dma.src.extractLsb' 0 8 } } ∧
      memWrite s 0xFF52#16 v = { s with dma := { s.dma with src := s.dma.src.extractLsb' 8 8 ++ (v &&& 0xF0#8) } } ∧
      memWrite s 0xFF53#16 v = { s with dma := { s.dma with
        dst := (0x80#8 ||| (v &&& 0x1F#8)) ++ s.dma.dst.extractLsb' 0 8 } } ∧
      memWrite s 0xFF54#16 v = { s with dma := { s.dma with dst := s.dma.dst.extractLsb' 8 8 ++ (v &&& 0xF0#8) } } ∧
      memWrite s 0xFF4D#16 v = { s with run := { s.run with speedArmed := v.getLsbD 0 } } ∧
      memWrite s 0xFF4F#16 v = { s with ram := { s.ram with vramBank := v.setWidth 1 } } ∧
      memWrite s 0xFF70#16 v = { s with ram := { s.ram with wramSel := v.setWidth 3 } } ∧
      memWrite s 0xFF6C#16 v = { s with lcd := { s.lcd with opri := v.getLsbD 0 } } ∧
      memWrite s 0xFF68#16 v = { s with lcd := { s.lcd with bgIdx := v.setWidth 6, bgInc := v.getLsbD 7 } } ∧
      memWrite s 0xFF6A#16 v = { s with lcd := { s.lcd with objIdx := v.setWidth 6, objInc := v.getLsbD 7 } } ∧
      memWrite s 0xFF69#16 v = { s with lcd := { s.lcd with
        bgPal := s.lcd.bgPal.write s.lcd.bgIdx.toNat v
        bgIdx := if s.lcd.bgInc then s.lcd.bgIdx + 1#6 else s.lcd.bgIdx } } ∧
      memWrite s 0xFF6B#16 v = { s with lcd := { s.lcd with
        objPal := s.lcd.objPal.write s.lcd.objIdx.toNat v
        objIdx := if s.lcd.objInc then s.lcd.objIdx + 1#6 else s.lcd.objIdx } })) ∧
  (∀ (s : State) (n v : Byte),
    n ∉ [0x00#8, 0x04#8, 0x05#8, 0x06#8, 0x07#8, 0x0F#8, 0x40#8, 0x41#8, 0x42#8, 0x43#8, 0x44#8, 0x45#8, 0x46#8, 0x47#8,
      0x48#8, 0x49#8, 0x4A#8, 0x4B#8, 0xFF#8] →
    (s.cfg.gen = .two → n ∉ [0x4D#8, 0x4F#8, 0x51#8, 0x52#8, 0x53#8, 0x54#8, 0x55#8, 0x68#8, 0x69#8, 0x6A#8, 0x6B#8,
      0x6C#8, 0x70#8]) →
    memRead s (pageAddress n) = s.ram.io.read n.toNat ∧
    memWrite s (pageAddress n) v = { s with ram := { s.ram with io := s.ram.io.write n.toNat v } })

/-- The line compare (rule R362): the status request is raised on the change from unequal to equal, when enabled, and a
second update with the same `LY` and `LYC` raises nothing. A write of `LYC` runs it (rule R38). -/
def Obligations.LineCompareFiresOncePerEquality : Prop :=
  ∀ s : State,
    coincidenceUpdate s = { s with irq := { s.irq with
      coincidence := decide (s.lcd.ly = s.lcd.lyc)
      iflag := if s.lcd.ly = s.lcd.lyc ∧ s.irq.coincidence = false ∧ s.irq.statEnable.getLsbD 3 = true
        then s.irq.iflag ||| 0b00010#5 else s.irq.iflag } } ∧
    (∀ f : BitVec 5,
      let t := coincidenceUpdate s
      let u : State := { t with irq := { t.irq with iflag := f } }
      coincidenceUpdate u = u) ∧
    ∀ v : Byte, memWrite s 0xFF45#16 v = coincidenceUpdate { s with lcd := { s.lcd with lyc := v } }

/-! ### The copy engines -/

/-- A write to `HDMA5` (rules R125 to R127, R129, R130): cancel, arm, or copy all blocks at once through the Bus, a block
at a time, 16 bytes a block. -/
def Obligations.BlockDmaWrite : Prop :=
  ∀ (s : State) (w : Byte), s.cfg.gen = .two →
    let n := w.toNat % 128 + 1
    let block := fun u : State =>
      let v := (List.range 16).foldl (fun x i =>
        memWrite x (0x8000#16 ||| ((x.dma.dst + BitVec.ofNat 16 i) &&& 0x1FFF#16))
          (memRead x (x.dma.src + BitVec.ofNat 16 i))) u
      ({ v with dma := { v.dma with
        src := v.dma.src + 16#16
        dst := 0x8000#16 ||| ((v.dma.dst + 16#16) &&& 0x1FFF#16)
        rem := v.dma.rem - 1#8 } } : State)
    (s.dma.active = true → w.getLsbD 7 = false →
      memWrite s 0xFF55#16 w = { s with dma := { s.dma with active := false } } ∧
      memRead (memWrite s 0xFF55#16 w) 0xFF55#16 = 0x80#8 ||| (s.dma.rem - 1#8)) ∧
    (w.getLsbD 7 = true →
      memWrite s 0xFF55#16 w = { s with dma := { s.dma with rem := BitVec.ofNat 8 n, active := true } }) ∧
    (s.dma.active = false → w.getLsbD 7 = false →
      memWrite s 0xFF55#16 w = times block n { s with dma := { s.dma with rem := BitVec.ofNat 8 n } } ∧
      memRead (memWrite s 0xFF55#16 w) 0xFF55#16 = 0xFF#8)

/-- What an immediate transfer copies, from a source outside video RAM and the page: `16 * n` bytes, in order, to the
addresses from `dma_dst` on, wrapping inside video RAM; nothing else of memory changes (from rules R126, R130). -/
def Obligations.ImmediateBlockDmaCopiesTheBytes : Prop :=
  ∀ (s : State) (w : Byte), s.cfg.gen = .two → s.dma.active = false → w.getLsbD 7 = false →
    let n := w.toNat % 128 + 1
    let t := memWrite s 0xFF55#16 w
    (∀ j, j < 16 * n → (s.dma.src + BitVec.ofNat 16 j).toNat < 0x8000 ∨
      0xA000 ≤ (s.dma.src + BitVec.ofNat 16 j).toNat ∧ (s.dma.src + BitVec.ofNat 16 j).toNat < 0xFF00) →
    (∀ j, j < 16 * n →
      memRead t (0x8000#16 ||| ((s.dma.dst + BitVec.ofNat 16 j) &&& 0x1FFF#16)) =
        memRead s (s.dma.src + BitVec.ofNat 16 j)) ∧
    (∀ a : Word, (∀ j, j < 16 * n → a ≠ 0x8000#16 ||| ((s.dma.dst + BitVec.ofNat 16 j) &&& 0x1FFF#16)) →
      a ≠ 0xFF55#16 → memRead t a = memRead s a)

/-- "HBlank-paced DMA of N requested blocks copies exactly N×16 bytes, one 16-byte chunk per HBlank entry" (rule R128):
`k` entries to HBlank copy `k` blocks while blocks are left, the last one ends the transfer, and an inactive transfer
copies nothing. -/
def Obligations.PacedDmaCopiesOneBlockPerHblank : Prop :=
  ∀ s : State,
    (s.dma.active = false → hblankDma s = s) ∧
    (s.dma.active = true → ∀ k, k < s.dma.rem.toNat → times hblankDma k s = times copyBlock k s) ∧
    (s.dma.active = true → 0 < s.dma.rem.toNat → ∀ k, s.dma.rem.toNat ≤ k →
      let t := times copyBlock s.dma.rem.toNat s
      times hblankDma k s = { t with dma := { t.dma with active := false } } ∧ t.dma.rem = 0#8)

/-- The sprite-table copy (rules R41, R132): the port keeps the byte, `OAM[i]` is the byte at `(w << 8) + i` for the 160
entries, and nothing else changes. The source may be any page, the sprite table and the register page included. -/
def Obligations.SpriteTableCopy : Prop :=
  ∀ (s : State) (w : Byte),
    let t := memWrite s 0xFF46#16 w
    t = { s with dma := { s.dma with port := w }, ram := { s.ram with oam := t.ram.oam } } ∧
    (∀ i, i < 160 → t.ram.oam.read i =
      memRead { s with dma := { s.dma with port := w } } ((w.setWidth 16) <<< 8 + BitVec.ofNat 16 i)) ∧
    (∀ i, 160 ≤ i → t.ram.oam.read i = s.ram.oam.read i)

/-! ### The pixel processor -/

/-- `PPU.step(n)`: with the display on it is literally the loop of rule R352, subtract `n`, then advance while the counter
is not above 0; with the display off (rule R353) it holds line 0, Search and a full budget, renders nothing, raises no
mode-entry request, and runs the line compare only. -/
def Obligations.PpuStepLoopsOrFreezes : Prop :=
  (∀ (s : State) (n : Nat), s.lcd.lcdc.getLsbD 7 = true →
    While (fun u : State => u.lcd.counter ≤ 0) ppuAdvance
      { s with lcd := { s.lcd with counter := s.lcd.counter - n } } (ppuStep n s)) ∧
  (∀ (s : State) (n : Nat), s.lcd.lcdc.getLsbD 7 = false →
    ppuStep n s = { s with
      lcd := { s.lcd with ly := 0#8, wlc := 0#8, mode := .search, counter := 80 }
      irq := { s.irq with
        coincidence := decide (s.lcd.lyc = 0#8)
        iflag := if s.lcd.lyc = 0#8 ∧ s.irq.coincidence = false ∧ s.irq.statEnable.getLsbD 3 = true
          then s.irq.iflag ||| 0b00010#5 else s.irq.iflag } })

/-- The transitions of `Advance()` (rules R351, R354 to R361): the next mode, line, counter and window line, and exactly
which requests are raised. -/
def Obligations.PpuTransitions : Prop :=
  ∀ s : State,
    let t := ppuAdvance s
    let q := s.irq
    let line := s.lcd.ly + 1#8
    let equal := fun y : Byte => y = s.lcd.lyc ∧ q.coincidence = false ∧ q.statEnable.getLsbD 3 = true
    (s.lcd.mode = .search →
      t = { s with lcd := { s.lcd with mode := .drawing, counter := s.lcd.counter + 172 } }) ∧
    (s.lcd.mode = .drawing →
      let r := renderLine s
      t = hblankDma { r with
        lcd := { r.lcd with mode := .hblank, counter := s.lcd.counter + 204 }
        irq := { q with
          iflag := if q.statEnable.getLsbD 0 = true then q.iflag ||| 0b00010#5 else q.iflag } }) ∧
    (s.lcd.mode = .hblank → line.toNat < 144 →
      t = { s with
        lcd := { s.lcd with ly := line, mode := .search, counter := s.lcd.counter + 80 }
        irq := { q with
          coincidence := decide (line = s.lcd.lyc)
          iflag := if equal line ∨ q.statEnable.getLsbD 2 = true then q.iflag ||| 0b00010#5 else q.iflag } }) ∧
    (s.lcd.mode = .hblank → 144 ≤ line.toNat →
      t = { s with
        lcd := { s.lcd with ly := line, mode := .vblank, counter := s.lcd.counter + 456 }
        irq := { q with
          coincidence := decide (line = s.lcd.lyc)
          iflag := if equal line ∨ q.statEnable.getLsbD 1 = true then q.iflag ||| 0b00011#5
            else q.iflag ||| 0b00001#5 } }) ∧
    (s.lcd.mode = .vblank → s.lcd.ly.toNat + 1 ≤ 153 →
      t = { s with
        lcd := { s.lcd with ly := line, counter := s.lcd.counter + 456 }
        irq := { q with
          coincidence := decide (line = s.lcd.lyc)
          iflag := if equal line then q.iflag ||| 0b00010#5 else q.iflag } }) ∧
    (s.lcd.mode = .vblank → 153 < s.lcd.ly.toNat + 1 →
      t = { s with
        lcd := { s.lcd with ly := 0#8, wlc := 0#8, mode := .search, counter := s.lcd.counter + 80 }
        host := { s.host with frames := s.lcd.fb :: s.host.frames }
        irq := { q with
          coincidence := decide (0#8 = s.lcd.lyc)
          iflag := if equal 0#8 ∨ q.statEnable.getLsbD 2 = true then q.iflag ||| 0b00010#5 else q.iflag } })

/-- Position in the frame (rule R365). The step lemma: with the display on, from the place that `t` cycles lead to, a
PPU step of `n` leads to the place of `t + n`, and keeps `LCDC`; so does a step of the machine, by the count its CPU step
passes on. From the start of line 0, after any steps whose counts add up to `t`, the line is `(t div 456) mod 154`, and
the mode follows from `t mod 456`. -/
def Obligations.FramePositionFollowsTheCycles : Prop :=
  (∀ (s : State) (t n : Nat), s.lcd.lcdc.getLsbD 7 = true → AtPosition t s →
    AtPosition (t + n) (ppuStep n s) ∧ (ppuStep n s).lcd.lcdc = s.lcd.lcdc) ∧
  (∀ (s u v : State) (t : Nat), AtPosition t s → cpuStep s = .next u → u.lcd.lcdc.getLsbD 7 = true → step s = .next v →
    AtPosition (t + if u.run.ds then u.run.cycles / 2 else u.run.cycles) v) ∧
  (∀ (s : State) (counts : List Nat), s.lcd.lcdc.getLsbD 7 = true → s.lcd.ly = 0#8 → s.lcd.mode = .search →
    s.lcd.counter = 80 →
    let t := counts.sum
    let line := t / 456 % 154
    let u := t % 456
    let r := counts.foldl (fun x n => ppuStep n x) s
    r.lcd.ly.toNat = line ∧
    r.lcd.mode = if 144 ≤ line then .vblank else if u < 80 then .search else if u < 252 then .drawing else .hblank)

/-- `RenderLine()` (rules R390, R400, R432) writes the 160 values of row `LY`, each composed from the background or
window pixel and the sprite layer of its column, and no other row; `WLC` counts the lines the window was drawn on. -/
def Obligations.RenderLineDrawsItsRowOnly : Prop :=
  ∀ s : State, s.lcd.ly.toNat < 144 →
    let t := renderLine s
    let wOn := (s.cfg.gen = .two ∨ s.lcd.lcdc.getLsbD 0 = true) ∧ s.lcd.lcdc.getLsbD 5 = true ∧
      s.lcd.wy.toNat ≤ s.lcd.ly.toNat ∧ s.lcd.wx.toNat ≤ 166
    (∀ y x, x < 160 → t.lcd.fb.read (160 * y + x) =
      if y = s.lcd.ly.toNat then compose s (backPixel s x) (layerOf s (drawOrder s) x)
      else s.lcd.fb.read (160 * y + x)) ∧
    (wOn → t.lcd.wlc = s.lcd.wlc + 1#8) ∧ (¬ wOn → t.lcd.wlc = s.lcd.wlc) ∧
    t = { s with lcd := { s.lcd with fb := t.lcd.fb, wlc := t.lcd.wlc } }

/-- Sprite selection and priority (rules R411, R412, R414): at most ten entries, all on the line, each entry left out
beaten by ten lower ones; and the sprite pixel of a column is that of the selected entry that covers it with a colour
other than 0 and comes first, by smallest `ox` and then smallest index, or by smallest index alone. -/
def Obligations.SpritePriority : Prop :=
  ∀ (s : State) (x : Nat), x < 160 →
    let sel := selected s
    let byX := s.cfg.gen = .one ∨ s.lcd.opri = true
    let ox := fun n => (s.ram.oam.read (4 * n + 1)).toNat
    let oy := fun n => (s.ram.oam.read (4 * n)).toNat
    let onTheLine := fun n => oy n ≤ s.lcd.ly.toNat + 16 ∧
      s.lcd.ly.toNat + 16 < oy n + (if s.lcd.lcdc.getLsbD 2 then 16 else 8)
    let shows := fun n => ox n ≤ x + 8 ∧ x < ox n ∧ spritePixel s n x ≠ 0
    let before := fun m n => if byX then ox m < ox n ∨ (ox m = ox n ∧ m < n) else m < n
    sel.length ≤ 10 ∧
    (∀ n ∈ sel, n < 40 ∧ onTheLine n ∧ s.lcd.lcdc.getLsbD 1 = true) ∧
    (s.lcd.lcdc.getLsbD 1 = true → ∀ n, n < 40 → onTheLine n → n ∉ sel → sel.length = 10 ∧ ∀ m ∈ sel, m < n) ∧
    ((∀ n ∈ sel, ¬ shows n) → layerOf s (drawOrder s) x = none) ∧
    (∀ n ∈ sel, shows n → (∀ m ∈ sel, shows m → m = n ∨ before n m) →
      layerOf s (drawOrder s) x = some { idx := spritePixel s n x, attr := s.ram.oam.read (4 * n + 3) })

/-- Tiles (rules R392 to R395, R413): a pixel is two bits, one of each plane, the leftmost column in bit 7; a background or
window pixel goes through its map, its attribute byte and the flips; a sprite pixel through its flips, its bank and the
two halves of a tall sprite. -/
def Obligations.TilePixelsAreTwoBitPlanes : Prop :=
  ∀ s : State,
    let plane := fun (b a col : Nat) =>
      if (s.ram.vram.read (0x2000 * b + (a - 0x8000))).getLsbD (7 - col) = true then 1 else 0
    let pixel := fun (b base row col : Nat) =>
      2 * plane b (base + 2 * row + 1) col + plane b (base + 2 * row) col
    (∀ mx my base : Nat, mx < 256 → my < 256 → (base = 0x9800 ∨ base = 0x9C00) →
      let ma := base + 32 * (my / 8) + mx / 8
      let t := s.ram.vram.read (ma - 0x8000)
      let attr : Byte := if s.cfg.gen = .two then s.ram.vram.read (0x2000 + (ma - 0x8000)) else 0#8
      let tile := if s.lcd.lcdc.getLsbD 4 = true then 0x8000 + 16 * t.toNat
        else ((0x9000 : Int) + 16 * t.toInt).toNat
      let row := if attr.getLsbD 6 = true then 7 - my % 8 else my % 8
      let col := if attr.getLsbD 5 = true then 7 - mx % 8 else mx % 8
      bgPixel s mx my base =
        { idx := pixel (if attr.getLsbD 3 = true then 1 else 0) tile row col, attr := attr }) ∧
    (∀ n x : Nat,
      let oy := (s.ram.oam.read (4 * n)).toNat
      let ox := (s.ram.oam.read (4 * n + 1)).toNat
      let number := (s.ram.oam.read (4 * n + 2)).toNat
      let attr := s.ram.oam.read (4 * n + 3)
      let h := if s.lcd.lcdc.getLsbD 2 = true then 16 else 8
      let line := s.lcd.ly.toNat + 16 - oy
      let row := if attr.getLsbD 6 = true then h - 1 - line else line
      let col := if attr.getLsbD 5 = true then 7 - (x + 8 - ox) else x + 8 - ox
      let tile := if h = 16 then 2 * (number / 2) + row / 8 else number
      n < 40 → oy ≤ s.lcd.ly.toNat + 16 → s.lcd.ly.toNat + 16 < oy + h → ox ≤ x + 8 → x < ox →
        spritePixel s n x = pixel (if s.cfg.gen = .two ∧ attr.getLsbD 3 = true then 1 else 0)
          (0x8000 + 16 * tile) (row % 8) col)

/-- The background or window pixel of a column (rules R396 to R399, R401), and its composition with the sprite layer on
both generations (rules R420, R421, R424 to R427). A shade is two bits of a palette register, a colour is two bytes of
a colour table. -/
def Obligations.BackgroundPixelAndComposition : Prop :=
  (∀ (s : State) (x : Nat), x < 160 →
    let bOn := s.cfg.gen = .two ∨ s.lcd.lcdc.getLsbD 0 = true
    let wOn := bOn ∧ s.lcd.lcdc.getLsbD 5 = true ∧ s.lcd.wy.toNat ≤ s.lcd.ly.toNat ∧ s.lcd.wx.toNat ≤ 166
    let wx := s.lcd.wx.toNat
    (¬ bOn → backPixel s x = { idx := 0, attr := 0#8 }) ∧
    (wOn → wx ≤ x + 7 → backPixel s x =
      bgPixel s (x + 7 - wx) s.lcd.wlc.toNat (if s.lcd.lcdc.getLsbD 6 then 0x9C00 else 0x9800)) ∧
    (bOn → (¬ wOn ∨ x + 7 < wx) → backPixel s x =
      bgPixel s ((x + s.lcd.scx.toNat) % 256) ((s.lcd.ly.toNat + s.lcd.scy.toNat) % 256)
        (if s.lcd.lcdc.getLsbD 3 then 0x9C00 else 0x9800))) ∧
  (∀ (s : State) (back p : Pixel), back.idx < 4 → p.idx < 4 →
    let shadeOf := fun (reg : Byte) (c : Nat) => ((reg >>> (2 * c)) &&& 3#8).setWidth 15
    let entry := fun (pal : Memory 8) (q : Pixel) =>
      let n := 4 * (q.attr.toNat % 8) + q.idx
      (pal.read (2 * n + 1)).extractLsb' 0 7 ++ pal.read (2 * n)
    (s.cfg.gen = .one →
      compose s back none = shadeOf s.lcd.bgp back.idx ∧
      compose s back (some p) =
        if p.attr.getLsbD 7 = true ∧ back.idx ≠ 0 then shadeOf s.lcd.bgp back.idx
        else shadeOf (if p.attr.getLsbD 4 then s.lcd.obp1 else s.lcd.obp0) p.idx) ∧
    (s.cfg.gen = .two →
      compose s back none = entry s.lcd.bgPal back ∧
      compose s back (some p) =
        if s.lcd.lcdc.getLsbD 0 = true ∧ back.idx ≠ 0 ∧ (back.attr.getLsbD 7 = true ∨ p.attr.getLsbD 7 = true)
        then entry s.lcd.bgPal back else entry s.lcd.objPal p))

/-- The frame the Host receives (rules R6, R431): a copy of `FB` and no other effect. A shade 0 to 3 becomes the colour
`SHADE_RGB` gives it, a 15-bit colour the one `RGB555_TO_888` gives it, both parameters, with the spec's defaults. The
list of frames, and a table of exceptions to the default as the form of the second parameter, are the model's choice
(log entry 7). -/
def Obligations.FramesReachTheHostIn24BitColour : Prop :=
  (∀ s : State, presentFrame s = { s with host := { s.host with frames := s.lcd.fb :: s.host.frames } }) ∧
  (∀ (cfg : Config) (fb : Memory 15) (y x : Nat), cfg.gen = .one →
    (fb.read (160 * y + x) = 0#15 → frameColour cfg fb y x = cfg.shades.shade0) ∧
    (fb.read (160 * y + x) = 1#15 → frameColour cfg fb y x = cfg.shades.shade1) ∧
    (fb.read (160 * y + x) = 2#15 → frameColour cfg fb y x = cfg.shades.shade2) ∧
    (fb.read (160 * y + x) = 3#15 → frameColour cfg fb y x = cfg.shades.shade3)) ∧
  (∀ (cfg : Config) (fb : Memory 15) (y x : Nat), cfg.gen = .two → cfg.wf = true →
    (∀ c, ((fb.read (160 * y + x)).toNat, c) ∈ cfg.colours → frameColour cfg fb y x = c) ∧
    ((∀ e ∈ cfg.colours, e.1 ≠ (fb.read (160 * y + x)).toNat) →
      ∀ r g b : BitVec 5, fb.read (160 * y + x) = b ++ g ++ r →
        let wide := fun k : BitVec 5 => (k.setWidth 8 <<< 3 ||| k.setWidth 8 >>> 2 : Byte)
        frameColour cfg fb y x = wide r ++ wide g ++ wide b)) ∧
  Config.scenario.shades = { shade0 := 0xFFFFFF#24, shade1 := 0xAAAAAA#24, shade2 := 0x555555#24, shade3 := 0x000000#24 } ∧
  Config.scenario.colours = []

/-! ### The Timer and the Host -/

/-- The Timer. That the model has the Timer of rule R466, where rule R465 would also allow an abstract one, is the model's
choice (log entry 16). By rule R466 the divider always counts; while the Timer is enabled the accumulator gains `n` and the loop of
the rule runs, one count of `TIMA` a period, reloading from `TMA` with the timer request on overflow; and the four
registers on the page, with their reset values. -/
def Obligations.TimerStepIsItsLoop : Prop :=
  (∀ (s : State) (n : Nat),
    let period := if s.tim.tac.getLsbD 1 then (if s.tim.tac.getLsbD 0 then 256 else 64)
      else (if s.tim.tac.getLsbD 0 then 16 else 1024)
    let divided : State := { s with tim := { s.tim with divCounter := s.tim.divCounter + BitVec.ofNat 16 n } }
    (s.tim.tac.getLsbD 2 = false → timerStep n s = divided) ∧
    (s.tim.tac.getLsbD 2 = true →
      While (fun u : State => period ≤ u.tim.timaAcc)
        (fun u => if u.tim.tima = 0xFF#8 then
            { u with
              tim := { u.tim with timaAcc := u.tim.timaAcc - period, tima := u.tim.tma }
              irq := { u.irq with iflag := u.irq.iflag ||| 0b00100#5 } }
          else { u with tim := { u.tim with timaAcc := u.tim.timaAcc - period, tima := u.tim.tima + 1#8 } })
        { divided with tim := { divided.tim with timaAcc := s.tim.timaAcc + n } } (timerStep n s))) ∧
  (∀ (s : State) (v : Byte),
    memRead s 0xFF04#16 = s.tim.divCounter.extractLsb' 8 8 ∧
    memRead s 0xFF05#16 = s.tim.tima ∧
    memRead s 0xFF06#16 = s.tim.tma ∧
    memRead s 0xFF07#16 = 0xF8#8 ||| s.tim.tac.setWidth 8 ∧
    memWrite s 0xFF04#16 v = { s with tim := { s.tim with divCounter := 0#16 } } ∧
    memWrite s 0xFF05#16 v = { s with tim := { s.tim with tima := v } } ∧
    memWrite s 0xFF06#16 v = { s with tim := { s.tim with tma := v } } ∧
    memWrite s 0xFF07#16 v = { s with tim := { s.tim with tac := v.setWidth 3 } }) ∧
  (∀ c : Config, (State.boot c (Boot.standard c.gen)).tim =
    { divCounter := 0xAB00#16, timaAcc := 0, tima := 0#8, tma := 0#8, tac := 0#3 })

/-- The Host's turn (rule R470): a new mask that differs replaces the old one and raises the input request once; the same
mask, or no mask, changes nothing but the input sequence. -/
def Obligations.HostMaskRaisesTheInputRequest : Prop :=
  ∀ (s : State) (new : Byte) (rest : List (Option Byte)),
    (s.host.masks = [] → hostTurn s = s) ∧
    (s.host.masks = none :: rest → hostTurn s = { s with host := { s.host with masks := rest } }) ∧
    (s.host.masks = some new :: rest → new = s.pad.inputMask →
      hostTurn s = { s with host := { s.host with masks := rest } }) ∧
    (s.host.masks = some new :: rest → new ≠ s.pad.inputMask →
      hostTurn s = { s with
        host := { s.host with masks := rest }
        pad := { s.pad with inputMask := new }
        irq := { s.irq with iflag := s.irq.iflag ||| 0b10000#5 } })

/-! ### The whole machine -/

/-- Every step from every state answers a next state: nothing faults (rule R440). `CPU.step` answers a count drawn from
4, 8, 12, 16, 20, 24 (rule R7), then the pixel processor steps with the count halved in double speed and the Timer with the
whole count (rules R8, R9). That the Host then acts inside the same step, after the Timer, is the model's choice: the rules
say only that it acts between iterations (log entry 6). -/
def Obligations.EveryStepCompletesInAgentOrder : Prop :=
  ∀ s : State, ∃ t, cpuStep s = .next t ∧
    t.run.cycles ∈ [4, 8, 12, 16, 20, 24] ∧
    step s = .next (hostTurn (timerStep t.run.cycles
      (ppuStep (if t.run.ds then t.run.cycles / 2 else t.run.cycles) t)))

/-- "Bits 3 to 0 always read 0 and cannot be set by any instruction" (rule R21): a step keeps the low nibble of `F`
clear. -/
def Obligations.FlagLowNibbleStaysClear : Prop :=
  ∀ s t : State, FlagNibbleClear s → step s = .next t → FlagNibbleClear t

/-- A step keeps every storage array in canonical form and inside the size of rule R30. -/
def Obligations.ArraysStayCanonical : Prop := ∀ s t : State, ArraysOk s → step s = .next t → ArraysOk t

/-- A step keeps the bank registers in range (rules R31, R113, R115, R118), the block-DMA state legal (rules R47, R125 to
R130), the Timer's accumulator in 0 to 1023 (rule R466), and generation 1 without double speed, speed switch and
block DMA (rules R27, R44, R47). -/
def Obligations.ControlRegistersStayLegal : Prop :=
  ∀ s t : State, step s = .next t →
    (BanksOk s → BanksOk t) ∧ (DmaOk s → DmaOk t) ∧ (TimerOk s → TimerOk t) ∧ (Gen1Ok s → Gen1Ok t)

/-- A step keeps the mode machine legal (rules R37, R351, R352, R361): the counter is above 0 and within the mode's
budget, VBlank holds exactly on lines 144 to 153, and `LY` never reads 154. -/
def Obligations.ModeMachineStaysLegal : Prop := ∀ s t : State, LcdOk s → step s = .next t → LcdOk t

/-- Every invariant holds right after reset, on both generations, for any legal configuration. -/
def Obligations.ResetMeetsTheInvariants : Prop :=
  Inv State.reset ∧ ∀ c : Config, c.wf = true → Inv (State.boot c (Boot.standard c.gen))

/-- What reset leaves (rules R66, R490, R491): the table of rule R66, generation by generation, and the values the
defining rules give (rules R31 to R52, R466). The values are the spec's defaults of `BOOT`, taken by log entries 3 and 12;
that `State.reset` is this state on the one configuration `Config.scenario` is the model's choice (log entry 2). A boot
record of any other values is what reset leaves in their place. -/
def Obligations.ResetValues : Prop :=
  ∀ c : Config,
    let s := State.boot c (Boot.standard c.gen)
    (c.gen = .one → s.regs = {
      a := 0x01#8, f := 0xB0#8, b := 0x00#8, c := 0x13#8, d := 0x00#8, e := 0xD8#8
      h := 0x01#8, l := 0x4D#8, sp := 0xFFFE#16, pc := 0x0100#16 }) ∧
    (c.gen = .two → s.regs = {
      a := 0x11#8, f := 0x80#8, b := 0x00#8, c := 0x00#8, d := 0xFF#8, e := 0x56#8
      h := 0x00#8, l := 0x0D#8, sp := 0xFFFE#16, pc := 0x0100#16 }) ∧
    s.run.halted = false ∧ s.run.ime = false ∧ s.run.ds = false ∧ s.run.eiDelay = .zero ∧ s.run.locked = false ∧
    s.run.speedArmed = false ∧
    s.cart = { eram := [], romBank := 1#9, ramBank := 0#4, ramEnable := false, bankMode := false } ∧
    memRead s 0xFFFF#16 = 0x00#8 ∧ memRead s 0xFF0F#16 = 0xE1#8 ∧ memRead s 0xFF41#16 = 0x86#8 ∧
    memRead s 0xFF40#16 = 0x91#8 ∧ memRead s 0xFF47#16 = 0xFC#8 ∧ memRead s 0xFF48#16 = 0xFF#8 ∧
    memRead s 0xFF49#16 = 0xFF#8 ∧ memRead s 0xFF46#16 = 0xFF#8 ∧ memRead s 0xFF00#16 = 0xFF#8 ∧
    (∀ a ∈ [0xFF42#16, 0xFF43#16, 0xFF44#16, 0xFF45#16, 0xFF4A#16, 0xFF4B#16, 0xFF05#16, 0xFF06#16],
      memRead s a = 0x00#8) ∧
    memRead s 0xFF04#16 = 0xAB#8 ∧ memRead s 0xFF07#16 = 0xF8#8 ∧ s.tim.timaAcc = 0 ∧
    s.lcd.mode = .search ∧ s.lcd.counter = 80 ∧ s.lcd.wlc = 0#8 ∧
    s.pad = { select := 3#2, inputMask := 0#8 } ∧
    (c.gen = .two → memRead s 0xFF4D#16 = 0x7E#8 ∧ memRead s 0xFF4F#16 = 0xFE#8 ∧ memRead s 0xFF70#16 = 0xF8#8 ∧
      memRead s 0xFF55#16 = 0xFF#8 ∧ memRead s 0xFF68#16 = 0x40#8 ∧ memRead s 0xFF6A#16 = 0x40#8 ∧
      memRead s 0xFF6C#16 = 0xFE#8 ∧ s.dma.src = 0x0000#16 ∧ s.dma.dst = 0x8000#16 ∧ s.dma.rem = 0#8 ∧
      s.dma.active = false) ∧
    (∀ k, s.ram.vram.read k = 0#8 ∧ s.ram.wram.read k = 0#8 ∧ s.ram.oam.read k = 0#8 ∧ s.ram.io.read k = 0#8 ∧
      s.cart.eram.read k = 0#8 ∧ s.lcd.bgPal.read k = 0#8 ∧ s.lcd.objPal.read k = 0#8 ∧ s.lcd.fb.read k = 0#15) ∧
    State.reset = State.boot Config.scenario (Boot.standard Config.scenario.gen) ∧
    (∀ b : Boot, State.boot c b = {
      cfg := c, regs := b.regs, run := b.run, cart := b.cart, irq := b.irq, lcd := b.lcd, ram := b.ram, dma := b.dma
      tim := b.tim, pad := b.pad, host := { masks := [], frames := [] } })
end

