-- ==== Sys2Proof/Laws/Memory.lean ====
section
/-! SUPPORT. The laws of the storage arrays: read after write, and that every write keeps the canonical form
and the size. -/

namespace Sys2Proof.Machine

variable {w : Nat}

theorem read_erase_same (m : Memory w) (a : Nat) : (Memory.erase m a).read a = unlisted w := by
  induction m with
  | nil => rfl
  | cons p r ih => simp only [Memory.erase]; split <;> simp_all [Memory.read]

theorem read_erase_other (m : Memory w) (a b : Nat) (h : b ≠ a) : (Memory.erase m a).read b = m.read b := by
  induction m with
  | nil => rfl
  | cons p r ih =>
    simp only [Memory.erase]
    split
    · rename_i hk; rw [ih]; simp [Memory.read, show ¬ p.1 = b by omega]
    · simp only [Memory.read, ih]

theorem read_insert (m : Memory w) (a b : Nat) (v : BitVec w) (ha : m.read a = unlisted w ∨ b ≠ a)
    (hn : ∀ p ∈ m, p.1 ≠ a) : (Memory.insert m a v).read b = if b = a then v else m.read b := by
  induction m with
  | nil => simp [Memory.insert, Memory.read, eq_comm]
  | cons p r ih =>
    have hp : p.1 ≠ a := hn p (by simp)
    simp only [Memory.insert]
    split
    · simp [Memory.read, eq_comm]
    · by_cases hb : p.1 = b
      · simp [Memory.read, hb, show b ≠ a by omega]
      · have hr : Memory.read r a = unlisted w ∨ b ≠ a := by simpa [Memory.read, hp] using ha
        simp only [Memory.read, hb, if_false]
        exact ih hr (fun q hq => hn q (by simp [hq]))

theorem erase_ne (m : Memory w) (a : Nat) : ∀ p ∈ Memory.erase m a, p.1 ≠ a := by
  induction m with
  | nil => simp [Memory.erase]
  | cons p r ih =>
    simp only [Memory.erase]
    split
    · exact ih
    · intro q hq
      rcases List.mem_cons.mp hq with rfl | hq
      · assumption
      · exact ih q hq

/-- One cell after a write: the value written, or what it was. -/
theorem read_write (m : Memory w) (a b : Nat) (v : BitVec w) :
    (m.write a v).read b = if b = a then v else m.read b := by
  unfold Memory.write
  split
  · by_cases hb : b = a
    · simp_all [read_erase_same]
    · simp [hb, read_erase_other]
  · rw [read_insert _ _ _ _ (Or.inl (read_erase_same m a)) (erase_ne m a)]
    split
    · rfl
    · exact read_erase_other m a b ‹_›

@[simp] theorem read_write_same (m : Memory w) (a : Nat) (v : BitVec w) : (m.write a v).read a = v := by
  simp [read_write]

theorem read_write_other (m : Memory w) (a b : Nat) (v : BitVec w) (h : b ≠ a) : (m.write a v).read b = m.read b := by
  simp [read_write, h]

theorem wfFrom_mono (m : Memory w) (lo lo' : Nat) (h : lo' ≤ lo) (hm : Memory.wfFrom lo m = true) :
    Memory.wfFrom lo' m = true := by
  cases m with
  | nil => rfl
  | cons p r =>
    simp only [Memory.wfFrom, Bool.and_eq_true, decide_eq_true_eq] at *
    exact ⟨⟨by omega, hm.1.2⟩, hm.2⟩

theorem wfFrom_erase (m : Memory w) (lo a : Nat) (h : Memory.wfFrom lo m = true) :
    Memory.wfFrom lo (Memory.erase m a) = true := by
  induction m generalizing lo with
  | nil => rfl
  | cons p r ih =>
    simp only [Memory.wfFrom, Bool.and_eq_true, decide_eq_true_eq] at h
    simp only [Memory.erase]
    split
    · exact wfFrom_mono _ _ _ (by omega) (ih _ h.2)
    · simp [Memory.wfFrom, h.1.1, h.1.2, ih _ h.2]

theorem wfFrom_insert (m : Memory w) (lo a : Nat) (v : BitVec w) (hv : v ≠ unlisted w) (hlo : lo ≤ a)
    (hn : ∀ p ∈ m, p.1 ≠ a) (h : Memory.wfFrom lo m = true) : Memory.wfFrom lo (Memory.insert m a v) = true := by
  induction m generalizing lo with
  | nil => simp [Memory.insert, Memory.wfFrom, hv, hlo]
  | cons p r ih =>
    simp only [Memory.wfFrom, Bool.and_eq_true, decide_eq_true_eq] at h
    have hp : p.1 ≠ a := hn p (by simp)
    simp only [Memory.insert]
    split
    · simp [Memory.wfFrom, hv, hlo, h.1.2, h.2]; omega
    · simp only [Memory.wfFrom, Bool.and_eq_true, decide_eq_true_eq]
      exact ⟨h.1, ih _ (by omega) (fun q hq => hn q (by simp [hq])) h.2⟩

/-- A write keeps the canonical form. -/
theorem write_wf (m : Memory w) (a : Nat) (v : BitVec w) (h : m.wf = true) : (m.write a v).wf = true := by
  unfold Memory.write Memory.wf at *
  split
  · exact wfFrom_erase m 0 a h
  · exact wfFrom_insert _ 0 a v ‹_› (by omega) (erase_ne m a) (wfFrom_erase m 0 a h)

/-- A write inside an array's size keeps the size. -/
theorem write_below (m : Memory w) (n a : Nat) (v : BitVec w) (ha : a < n) (h : m.below n = true) :
    (m.write a v).below n = true := by
  have he : Memory.below n (Memory.erase m a) = true := by
    induction m with
    | nil => rfl
    | cons p r ih =>
      simp only [Memory.below, Bool.and_eq_true, decide_eq_true_eq] at h
      simp only [Memory.erase]
      split
      · exact ih h.2
      · simp [Memory.below, h.1, ih h.2]
  unfold Memory.write
  split
  · exact he
  · generalize Memory.erase m a = l at he
    clear h
    induction l with
    | nil => simp [Memory.insert, Memory.below, ha]
    | cons p r ih =>
      simp only [Memory.below, Bool.and_eq_true, decide_eq_true_eq] at he
      simp only [Memory.insert]
      split
      · simp [Memory.below, ha, he.1, he.2]
      · simp [Memory.below, he.1, ih he.2]

end Sys2Proof.Machine
end

