-- ==== Sys2Proof/Laws/State.lean ====
section
/-! SUPPORT. One lemma for each field of the state under each named update, and the accessor laws of the
register file (rules R20 to R22). -/

namespace Sys2Proof.Machine

/-! ### `State.boot` -/

@[simp] theorem boot_cfg (c : Config) (b : Boot) : (State.boot c b).cfg = c := rfl
@[simp] theorem boot_regs (c : Config) (b : Boot) : (State.boot c b).regs = b.regs := rfl
@[simp] theorem boot_run (c : Config) (b : Boot) : (State.boot c b).run = b.run := rfl
@[simp] theorem boot_cart (c : Config) (b : Boot) : (State.boot c b).cart = b.cart := rfl
@[simp] theorem boot_irq (c : Config) (b : Boot) : (State.boot c b).irq = b.irq := rfl
@[simp] theorem boot_lcd (c : Config) (b : Boot) : (State.boot c b).lcd = b.lcd := rfl
@[simp] theorem boot_ram (c : Config) (b : Boot) : (State.boot c b).ram = b.ram := rfl
@[simp] theorem boot_dma (c : Config) (b : Boot) : (State.boot c b).dma = b.dma := rfl
@[simp] theorem boot_tim (c : Config) (b : Boot) : (State.boot c b).tim = b.tim := rfl
@[simp] theorem boot_pad (c : Config) (b : Boot) : (State.boot c b).pad = b.pad := rfl
@[simp] theorem boot_host (c : Config) (b : Boot) : (State.boot c b).host = { masks := [], frames := [] } := rfl

/-! ### `spend`, `withRegs`, `jump`, `raiseIrq`, `clearIrq`, `vramWrite` -/

@[simp] theorem spend_cfg (s : State) (n : Nat) : (s.spend n).cfg = s.cfg := rfl
@[simp] theorem spend_regs (s : State) (n : Nat) : (s.spend n).regs = s.regs := rfl
@[simp] theorem spend_run (s : State) (n : Nat) : (s.spend n).run = s.run.withCycles n := rfl
@[simp] theorem spend_cart (s : State) (n : Nat) : (s.spend n).cart = s.cart := rfl
@[simp] theorem spend_irq (s : State) (n : Nat) : (s.spend n).irq = s.irq := rfl
@[simp] theorem spend_lcd (s : State) (n : Nat) : (s.spend n).lcd = s.lcd := rfl
@[simp] theorem spend_ram (s : State) (n : Nat) : (s.spend n).ram = s.ram := rfl
@[simp] theorem spend_dma (s : State) (n : Nat) : (s.spend n).dma = s.dma := rfl
@[simp] theorem spend_tim (s : State) (n : Nat) : (s.spend n).tim = s.tim := rfl
@[simp] theorem spend_pad (s : State) (n : Nat) : (s.spend n).pad = s.pad := rfl
@[simp] theorem spend_host (s : State) (n : Nat) : (s.spend n).host = s.host := rfl

@[simp] theorem withRegs_cfg (s : State) (g : Regs) : (s.withRegs g).cfg = s.cfg := rfl
@[simp] theorem withRegs_regs (s : State) (g : Regs) : (s.withRegs g).regs = g := rfl
@[simp] theorem withRegs_run (s : State) (g : Regs) : (s.withRegs g).run = s.run := rfl
@[simp] theorem withRegs_cart (s : State) (g : Regs) : (s.withRegs g).cart = s.cart := rfl
@[simp] theorem withRegs_irq (s : State) (g : Regs) : (s.withRegs g).irq = s.irq := rfl
@[simp] theorem withRegs_lcd (s : State) (g : Regs) : (s.withRegs g).lcd = s.lcd := rfl
@[simp] theorem withRegs_ram (s : State) (g : Regs) : (s.withRegs g).ram = s.ram := rfl
@[simp] theorem withRegs_dma (s : State) (g : Regs) : (s.withRegs g).dma = s.dma := rfl
@[simp] theorem withRegs_tim (s : State) (g : Regs) : (s.withRegs g).tim = s.tim := rfl
@[simp] theorem withRegs_pad (s : State) (g : Regs) : (s.withRegs g).pad = s.pad := rfl
@[simp] theorem withRegs_host (s : State) (g : Regs) : (s.withRegs g).host = s.host := rfl

@[simp] theorem jump_cfg (s : State) (a : Word) : (s.jump a).cfg = s.cfg := rfl
@[simp] theorem jump_regs (s : State) (a : Word) : (s.jump a).regs = { s.regs with pc := a } := rfl
@[simp] theorem jump_run (s : State) (a : Word) : (s.jump a).run = s.run := rfl
@[simp] theorem jump_cart (s : State) (a : Word) : (s.jump a).cart = s.cart := rfl
@[simp] theorem jump_irq (s : State) (a : Word) : (s.jump a).irq = s.irq := rfl
@[simp] theorem jump_lcd (s : State) (a : Word) : (s.jump a).lcd = s.lcd := rfl
@[simp] theorem jump_ram (s : State) (a : Word) : (s.jump a).ram = s.ram := rfl
@[simp] theorem jump_dma (s : State) (a : Word) : (s.jump a).dma = s.dma := rfl
@[simp] theorem jump_tim (s : State) (a : Word) : (s.jump a).tim = s.tim := rfl
@[simp] theorem jump_pad (s : State) (a : Word) : (s.jump a).pad = s.pad := rfl
@[simp] theorem jump_host (s : State) (a : Word) : (s.jump a).host = s.host := rfl

@[simp] theorem raiseIrq_cfg (n : Source) (s : State) : (raiseIrq n s).cfg = s.cfg := rfl
@[simp] theorem raiseIrq_regs (n : Source) (s : State) : (raiseIrq n s).regs = s.regs := rfl
@[simp] theorem raiseIrq_run (n : Source) (s : State) : (raiseIrq n s).run = s.run := rfl
@[simp] theorem raiseIrq_cart (n : Source) (s : State) : (raiseIrq n s).cart = s.cart := rfl
@[simp] theorem raiseIrq_irq (n : Source) (s : State) : (raiseIrq n s).irq = { s.irq with iflag := s.irq.iflag ||| (1#5 <<< n.bitIndex) } := rfl
@[simp] theorem raiseIrq_lcd (n : Source) (s : State) : (raiseIrq n s).lcd = s.lcd := rfl
@[simp] theorem raiseIrq_ram (n : Source) (s : State) : (raiseIrq n s).ram = s.ram := rfl
@[simp] theorem raiseIrq_dma (n : Source) (s : State) : (raiseIrq n s).dma = s.dma := rfl
@[simp] theorem raiseIrq_tim (n : Source) (s : State) : (raiseIrq n s).tim = s.tim := rfl
@[simp] theorem raiseIrq_pad (n : Source) (s : State) : (raiseIrq n s).pad = s.pad := rfl
@[simp] theorem raiseIrq_host (n : Source) (s : State) : (raiseIrq n s).host = s.host := rfl

@[simp] theorem clearIrq_cfg (n : Source) (s : State) : (clearIrq n s).cfg = s.cfg := rfl
@[simp] theorem clearIrq_regs (n : Source) (s : State) : (clearIrq n s).regs = s.regs := rfl
@[simp] theorem clearIrq_run (n : Source) (s : State) : (clearIrq n s).run = s.run := rfl
@[simp] theorem clearIrq_cart (n : Source) (s : State) : (clearIrq n s).cart = s.cart := rfl
@[simp] theorem clearIrq_irq (n : Source) (s : State) : (clearIrq n s).irq = { s.irq with iflag := s.irq.iflag &&& ~~~ (1#5 <<< n.bitIndex) } := rfl
@[simp] theorem clearIrq_lcd (n : Source) (s : State) : (clearIrq n s).lcd = s.lcd := rfl
@[simp] theorem clearIrq_ram (n : Source) (s : State) : (clearIrq n s).ram = s.ram := rfl
@[simp] theorem clearIrq_dma (n : Source) (s : State) : (clearIrq n s).dma = s.dma := rfl
@[simp] theorem clearIrq_tim (n : Source) (s : State) : (clearIrq n s).tim = s.tim := rfl
@[simp] theorem clearIrq_pad (n : Source) (s : State) : (clearIrq n s).pad = s.pad := rfl
@[simp] theorem clearIrq_host (n : Source) (s : State) : (clearIrq n s).host = s.host := rfl

@[simp] theorem vramWrite_cfg (s : State) (o : Nat) (v : Byte) : (vramWrite s o v).cfg = s.cfg := rfl
@[simp] theorem vramWrite_regs (s : State) (o : Nat) (v : Byte) : (vramWrite s o v).regs = s.regs := rfl
@[simp] theorem vramWrite_run (s : State) (o : Nat) (v : Byte) : (vramWrite s o v).run = s.run := rfl
@[simp] theorem vramWrite_cart (s : State) (o : Nat) (v : Byte) : (vramWrite s o v).cart = s.cart := rfl
@[simp] theorem vramWrite_irq (s : State) (o : Nat) (v : Byte) : (vramWrite s o v).irq = s.irq := rfl
@[simp] theorem vramWrite_lcd (s : State) (o : Nat) (v : Byte) : (vramWrite s o v).lcd = s.lcd := rfl
@[simp] theorem vramWrite_ram (s : State) (o : Nat) (v : Byte) : (vramWrite s o v).ram = { s.ram with vram := s.ram.vram.write (vramBank s * 0x2000 + o) v } := rfl
@[simp] theorem vramWrite_dma (s : State) (o : Nat) (v : Byte) : (vramWrite s o v).dma = s.dma := rfl
@[simp] theorem vramWrite_tim (s : State) (o : Nat) (v : Byte) : (vramWrite s o v).tim = s.tim := rfl
@[simp] theorem vramWrite_pad (s : State) (o : Nat) (v : Byte) : (vramWrite s o v).pad = s.pad := rfl
@[simp] theorem vramWrite_host (s : State) (o : Nat) (v : Byte) : (vramWrite s o v).host = s.host := rfl

@[simp] theorem addCounter_cfg (k : Int) (s : State) : (addCounter k s).cfg = s.cfg := rfl
@[simp] theorem addCounter_regs (k : Int) (s : State) : (addCounter k s).regs = s.regs := rfl
@[simp] theorem addCounter_run (k : Int) (s : State) : (addCounter k s).run = s.run := rfl
@[simp] theorem addCounter_cart (k : Int) (s : State) : (addCounter k s).cart = s.cart := rfl
@[simp] theorem addCounter_irq (k : Int) (s : State) : (addCounter k s).irq = s.irq := rfl
@[simp] theorem addCounter_lcd (k : Int) (s : State) : (addCounter k s).lcd = { s.lcd with counter := s.lcd.counter + k } := rfl
@[simp] theorem addCounter_ram (k : Int) (s : State) : (addCounter k s).ram = s.ram := rfl
@[simp] theorem addCounter_dma (k : Int) (s : State) : (addCounter k s).dma = s.dma := rfl
@[simp] theorem addCounter_tim (k : Int) (s : State) : (addCounter k s).tim = s.tim := rfl
@[simp] theorem addCounter_pad (k : Int) (s : State) : (addCounter k s).pad = s.pad := rfl
@[simp] theorem addCounter_host (k : Int) (s : State) : (addCounter k s).host = s.host := rfl

@[simp] theorem setLy_cfg (v : Byte) (s : State) : (setLy v s).cfg = s.cfg := rfl
@[simp] theorem setLy_regs (v : Byte) (s : State) : (setLy v s).regs = s.regs := rfl
@[simp] theorem setLy_run (v : Byte) (s : State) : (setLy v s).run = s.run := rfl
@[simp] theorem setLy_cart (v : Byte) (s : State) : (setLy v s).cart = s.cart := rfl
@[simp] theorem setLy_irq (v : Byte) (s : State) : (setLy v s).irq = s.irq := rfl
@[simp] theorem setLy_lcd (v : Byte) (s : State) : (setLy v s).lcd = { s.lcd with ly := v } := rfl
@[simp] theorem setLy_ram (v : Byte) (s : State) : (setLy v s).ram = s.ram := rfl
@[simp] theorem setLy_dma (v : Byte) (s : State) : (setLy v s).dma = s.dma := rfl
@[simp] theorem setLy_tim (v : Byte) (s : State) : (setLy v s).tim = s.tim := rfl
@[simp] theorem setLy_pad (v : Byte) (s : State) : (setLy v s).pad = s.pad := rfl
@[simp] theorem setLy_host (v : Byte) (s : State) : (setLy v s).host = s.host := rfl

@[simp] theorem presentFrame_cfg (s : State) : (presentFrame s).cfg = s.cfg := rfl
@[simp] theorem presentFrame_regs (s : State) : (presentFrame s).regs = s.regs := rfl
@[simp] theorem presentFrame_run (s : State) : (presentFrame s).run = s.run := rfl
@[simp] theorem presentFrame_cart (s : State) : (presentFrame s).cart = s.cart := rfl
@[simp] theorem presentFrame_irq (s : State) : (presentFrame s).irq = s.irq := rfl
@[simp] theorem presentFrame_lcd (s : State) : (presentFrame s).lcd = s.lcd := rfl
@[simp] theorem presentFrame_ram (s : State) : (presentFrame s).ram = s.ram := rfl
@[simp] theorem presentFrame_dma (s : State) : (presentFrame s).dma = s.dma := rfl
@[simp] theorem presentFrame_tim (s : State) : (presentFrame s).tim = s.tim := rfl
@[simp] theorem presentFrame_pad (s : State) : (presentFrame s).pad = s.pad := rfl
@[simp] theorem presentFrame_host (s : State) : (presentFrame s).host = { s.host with frames := s.lcd.fb :: s.host.frames } := rfl

@[simp] theorem withCycles_halted (r : Run) (n : Nat) : (r.withCycles n).halted = r.halted := rfl
@[simp] theorem withCycles_ime (r : Run) (n : Nat) : (r.withCycles n).ime = r.ime := rfl
@[simp] theorem withCycles_ds (r : Run) (n : Nat) : (r.withCycles n).ds = r.ds := rfl
@[simp] theorem withCycles_eiDelay (r : Run) (n : Nat) : (r.withCycles n).eiDelay = r.eiDelay := rfl
@[simp] theorem withCycles_locked (r : Run) (n : Nat) : (r.withCycles n).locked = r.locked := rfl
@[simp] theorem withCycles_speedArmed (r : Run) (n : Nat) : (r.withCycles n).speedArmed = r.speedArmed := rfl
@[simp] theorem withCycles_cycles (r : Run) (n : Nat) : (r.withCycles n).cycles = n := rfl

@[simp] theorem raiseIf_cfg (c : Bool) (n : Source) (s : State) : (raiseIf c n s).cfg = s.cfg := by cases c <;> rfl
@[simp] theorem raiseIf_regs (c : Bool) (n : Source) (s : State) : (raiseIf c n s).regs = s.regs := by cases c <;> rfl
@[simp] theorem raiseIf_run (c : Bool) (n : Source) (s : State) : (raiseIf c n s).run = s.run := by cases c <;> rfl
@[simp] theorem raiseIf_cart (c : Bool) (n : Source) (s : State) : (raiseIf c n s).cart = s.cart := by cases c <;> rfl
@[simp] theorem raiseIf_lcd (c : Bool) (n : Source) (s : State) : (raiseIf c n s).lcd = s.lcd := by cases c <;> rfl
@[simp] theorem raiseIf_ram (c : Bool) (n : Source) (s : State) : (raiseIf c n s).ram = s.ram := by cases c <;> rfl
@[simp] theorem raiseIf_dma (c : Bool) (n : Source) (s : State) : (raiseIf c n s).dma = s.dma := by cases c <;> rfl
@[simp] theorem raiseIf_tim (c : Bool) (n : Source) (s : State) : (raiseIf c n s).tim = s.tim := by cases c <;> rfl
@[simp] theorem raiseIf_pad (c : Bool) (n : Source) (s : State) : (raiseIf c n s).pad = s.pad := by cases c <;> rfl
@[simp] theorem raiseIf_host (c : Bool) (n : Source) (s : State) : (raiseIf c n s).host = s.host := by cases c <;> rfl
@[simp] theorem raiseIf_ie (c : Bool) (n : Source) (s : State) : (raiseIf c n s).irq.ie = s.irq.ie := by cases c <;> rfl
@[simp] theorem raiseIf_statEnable (c : Bool) (n : Source) (s : State) : (raiseIf c n s).irq.statEnable = s.irq.statEnable := by cases c <;> rfl
@[simp] theorem raiseIf_coincidence (c : Bool) (n : Source) (s : State) : (raiseIf c n s).irq.coincidence = s.irq.coincidence := by cases c <;> rfl

@[simp] theorem coincidenceUpdate_cfg (s : State) : (coincidenceUpdate s).cfg = s.cfg := by simp [coincidenceUpdate]
@[simp] theorem coincidenceUpdate_regs (s : State) : (coincidenceUpdate s).regs = s.regs := by simp [coincidenceUpdate]
@[simp] theorem coincidenceUpdate_run (s : State) : (coincidenceUpdate s).run = s.run := by simp [coincidenceUpdate]
@[simp] theorem coincidenceUpdate_cart (s : State) : (coincidenceUpdate s).cart = s.cart := by simp [coincidenceUpdate]
@[simp] theorem coincidenceUpdate_lcd (s : State) : (coincidenceUpdate s).lcd = s.lcd := by simp [coincidenceUpdate]
@[simp] theorem coincidenceUpdate_ram (s : State) : (coincidenceUpdate s).ram = s.ram := by simp [coincidenceUpdate]
@[simp] theorem coincidenceUpdate_dma (s : State) : (coincidenceUpdate s).dma = s.dma := by simp [coincidenceUpdate]
@[simp] theorem coincidenceUpdate_tim (s : State) : (coincidenceUpdate s).tim = s.tim := by simp [coincidenceUpdate]
@[simp] theorem coincidenceUpdate_pad (s : State) : (coincidenceUpdate s).pad = s.pad := by simp [coincidenceUpdate]
@[simp] theorem coincidenceUpdate_host (s : State) : (coincidenceUpdate s).host = s.host := by simp [coincidenceUpdate]
@[simp] theorem coincidenceUpdate_ie (s : State) : (coincidenceUpdate s).irq.ie = s.irq.ie := by
  simp [coincidenceUpdate]
@[simp] theorem coincidenceUpdate_statEnable (s : State) :
    (coincidenceUpdate s).irq.statEnable = s.irq.statEnable := by simp [coincidenceUpdate]
@[simp] theorem coincidenceUpdate_coincidence (s : State) :
    (coincidenceUpdate s).irq.coincidence = decide (s.lcd.ly = s.lcd.lyc) := by simp [coincidenceUpdate]

@[simp] theorem enterMode_cfg (m : PpuMode) (s : State) : (enterMode m s).cfg = s.cfg := by simp [enterMode]
@[simp] theorem enterMode_regs (m : PpuMode) (s : State) : (enterMode m s).regs = s.regs := by simp [enterMode]
@[simp] theorem enterMode_run (m : PpuMode) (s : State) : (enterMode m s).run = s.run := by simp [enterMode]
@[simp] theorem enterMode_cart (m : PpuMode) (s : State) : (enterMode m s).cart = s.cart := by simp [enterMode]
@[simp] theorem enterMode_ram (m : PpuMode) (s : State) : (enterMode m s).ram = s.ram := by simp [enterMode]
@[simp] theorem enterMode_dma (m : PpuMode) (s : State) : (enterMode m s).dma = s.dma := by simp [enterMode]
@[simp] theorem enterMode_tim (m : PpuMode) (s : State) : (enterMode m s).tim = s.tim := by simp [enterMode]
@[simp] theorem enterMode_pad (m : PpuMode) (s : State) : (enterMode m s).pad = s.pad := by simp [enterMode]
@[simp] theorem enterMode_host (m : PpuMode) (s : State) : (enterMode m s).host = s.host := by simp [enterMode]
@[simp] theorem enterMode_lcd (m : PpuMode) (s : State) :
    (enterMode m s).lcd = { s.lcd with mode := m, counter := s.lcd.counter + budget m } := by simp [enterMode]

/-! ### The register file -/

theorem join_hi_lo (w : Word) : join (hiByte w) (loByte w) = w := by
  apply BitVec.eq_of_toNat_eq
  simp only [join, hiByte, loByte, BitVec.toNat_append, BitVec.extractLsb'_toNat, Nat.shiftLeft_eq, Nat.shiftRight_eq_div_pow]
  rw [← Nat.shiftLeft_eq, ← Nat.shiftLeft_add_eq_or_of_lt (by omega)]
  have := w.isLt
  omega

@[simp] theorem hiByte_join (h l : Byte) : hiByte (join h l) = h := by
  apply BitVec.eq_of_toNat_eq
  simp only [join, hiByte, BitVec.toNat_append, BitVec.extractLsb'_toNat, Nat.shiftRight_eq_div_pow]
  rw [← Nat.shiftLeft_add_eq_or_of_lt l.isLt, Nat.shiftLeft_eq]
  have := h.isLt
  have := l.isLt
  omega

@[simp] theorem loByte_join (h l : Byte) : loByte (join h l) = l := by
  apply BitVec.eq_of_toNat_eq
  simp only [join, loByte, BitVec.toNat_append, BitVec.extractLsb'_toNat, Nat.shiftRight_eq_div_pow]
  rw [← Nat.shiftLeft_add_eq_or_of_lt l.isLt, Nat.shiftLeft_eq]
  have := l.isLt
  omega

theorem regs_get_set_same (g : Regs) (r : Reg8) (v : Byte) : (g.set r v).get r = v := by cases r <;> rfl

theorem regs_get_set_other (g : Regs) (r q : Reg8) (v : Byte) (h : q ≠ r) : (g.set r v).get q = g.get q := by
  cases r <;> cases q <;> first | rfl | exact absurd rfl h

@[simp] theorem regs_set_f (g : Regs) (r : Reg8) (v : Byte) : (g.set r v).f = g.f := by cases r <;> rfl
@[simp] theorem regs_set_sp (g : Regs) (r : Reg8) (v : Byte) : (g.set r v).sp = g.sp := by cases r <;> rfl
@[simp] theorem regs_set_pc (g : Regs) (r : Reg8) (v : Byte) : (g.set r v).pc = g.pc := by cases r <;> rfl

theorem getRp_setRp (g : Regs) (p : Rp) (v : Word) : (g.setRp p v).getRp p = v := by
  cases p <;> simp [Regs.setRp, Regs.getRp, Regs.setBc, Regs.setDe, Regs.setHl, Regs.bc, Regs.de, Regs.hl, join_hi_lo]

@[simp] theorem setRp_f (g : Regs) (p : Rp) (v : Word) : (g.setRp p v).f = g.f := by cases p <;> rfl
@[simp] theorem setRp_pc (g : Regs) (p : Rp) (v : Word) : (g.setRp p v).pc = g.pc := by cases p <;> rfl

@[simp] theorem setHl_f (g : Regs) (v : Word) : (g.setHl v).f = g.f := rfl
@[simp] theorem setHl_hl (g : Regs) (v : Word) : (g.setHl v).hl = v := join_hi_lo v

end Sys2Proof.Machine
end

