-- ==== Sys2Proof/Laws/Bus.lean ====
section
/-! SUPPORT. What a write through the Bus can change, said once: `memWrite_untouched`. -/

namespace Sys2Proof.Machine

/-- A quantity that one round keeps is kept by the fold. -/
theorem foldl_keeps {α β γ : Type} (g : β → γ) (f : β → α → β) (h : ∀ b a, g (f b a) = g b) (l : List α) (b : β) :
    g (l.foldl f b) = g b := by
  induction l generalizing b with
  | nil => rfl
  | cons a r ih => rw [List.foldl_cons, ih, h]

/-- A property that one round keeps is kept by the fold. -/
theorem foldl_invariant {α β : Type} (P : β → Prop) (f : β → α → β) (h : ∀ b a, P b → P (f b a)) (l : List α) (b : β)
    (hb : P b) : P (l.foldl f b) := by
  induction l generalizing b with
  | nil => exact hb
  | cons a r ih => exact ih _ (h b a hb)

/-- The parts of the state that no copy engine, no mapper and no register write touches. -/
structure Untouched (s t : State) : Prop where
  cfg : t.cfg = s.cfg
  regs : t.regs = s.regs
  run : t.run = { s.run with speedArmed := t.run.speedArmed }
  host : t.host = s.host
  ly : t.lcd.ly = s.lcd.ly
  mode : t.lcd.mode = s.lcd.mode
  counter : t.lcd.counter = s.lcd.counter
  wlc : t.lcd.wlc = s.lcd.wlc
  fb : t.lcd.fb = s.lcd.fb
  acc : t.tim.timaAcc = s.tim.timaAcc
  mask : t.pad.inputMask = s.pad.inputMask

theorem Untouched.refl (s : State) : Untouched s s := by constructor <;> rfl

theorem Untouched.trans {s t u : State} (h : Untouched s t) (k : Untouched t u) : Untouched s u where
  cfg := k.cfg.trans h.cfg
  regs := k.regs.trans h.regs
  run := by rw [k.run, h.run]
  host := k.host.trans h.host
  ly := k.ly.trans h.ly
  mode := k.mode.trans h.mode
  counter := k.counter.trans h.counter
  wlc := k.wlc.trans h.wlc
  fb := k.fb.trans h.fb
  acc := k.acc.trans h.acc
  mask := k.mask.trans h.mask

/-- What one block copied changes: video RAM and the block-DMA registers. -/
theorem copyBytes_shape (l : List Nat) (s : State) :
    ∃ v, l.foldl copyByte s = { s with ram := { s.ram with vram := v } } := by
  induction l generalizing s with
  | nil => exact ⟨s.ram.vram, rfl⟩
  | cons i r ih =>
    obtain ⟨v, hv⟩ := ih (copyByte s i)
    exact ⟨v, by rw [List.foldl_cons, hv]; rfl⟩

theorem copyBlock_shape (s : State) :
    ∃ v, copyBlock s = { s with
      ram := { s.ram with vram := v }
      dma := { s.dma with
        src := s.dma.src + 16#16
        dst := 0x8000#16 ||| ((s.dma.dst + 16#16) &&& 0x1FFF#16)
        rem := s.dma.rem - 1#8 } } := by
  obtain ⟨v, hv⟩ := copyBytes_shape (List.range 16) s
  exact ⟨v, by simp [copyBlock, hv]⟩

theorem copyBlocks_shape (k : Nat) (s : State) :
    ∃ v src dst, copyBlocks k s = { s with
      ram := { s.ram with vram := v }
      dma := { s.dma with src := src, dst := dst, rem := s.dma.rem - BitVec.ofNat 8 k } } := by
  induction k generalizing s with
  | zero => exact ⟨s.ram.vram, s.dma.src, s.dma.dst, by simp [copyBlocks]⟩
  | succ k ih =>
    obtain ⟨v, src, dst, h⟩ := ih (copyBlock s)
    obtain ⟨v', h'⟩ := copyBlock_shape s
    refine ⟨v, src, dst, ?_⟩
    rw [copyBlocks, h, h']
    simp only [BitVec.sub_sub]
    congr 3
    rw [Nat.add_comm k 1, BitVec.ofNat_add]

theorem hblankDma_shape (s : State) :
    ∃ v d, hblankDma s = { s with ram := { s.ram with vram := v }, dma := d } := by
  unfold hblankDma
  obtain ⟨v, hv⟩ := copyBlock_shape s
  split
  · simp only [hv]
    split
    · exact ⟨_, _, rfl⟩
    · exact ⟨_, _, rfl⟩
  · exact ⟨s.ram.vram, s.dma, rfl⟩

theorem oamCopy_shape (w : Byte) (l : List Nat) (s : State) :
    ∃ o, l.foldl (oamCopyByte w) s = { s with ram := { s.ram with oam := o } } := by
  induction l generalizing s with
  | nil => exact ⟨s.ram.oam, rfl⟩
  | cons i r ih =>
    obtain ⟨o, ho⟩ := ih (oamCopyByte w s i)
    exact ⟨o, by rw [List.foldl_cons, ho]; rfl⟩

theorem oamDmaWrite_shape (s : State) (w : Byte) :
    ∃ o, oamDmaWrite s w = { s with dma := { s.dma with port := w }, ram := { s.ram with oam := o } } := by
  obtain ⟨o, ho⟩ := oamCopy_shape w (List.range 160) { s with dma := { s.dma with port := w } }
  exact ⟨o, by rw [oamDmaWrite, ho]⟩

theorem hdma5Write_shape (s : State) (w : Byte) :
    ∃ v d, hdma5Write s w = { s with ram := { s.ram with vram := v }, dma := d } := by
  unfold hdma5Write
  split
  · exact ⟨s.ram.vram, _, rfl⟩
  · split
    · exact ⟨s.ram.vram, _, rfl⟩
    · obtain ⟨v, a, b, h⟩ := copyBlocks_shape ((w &&& 0x7F#8) + 1#8).toNat
        { s with dma := { s.dma with rem := (w &&& 0x7F#8) + 1#8 } }
      exact ⟨v, _, h⟩

theorem mapperWrite_shape (s : State) (a : Word) (w : Byte) : ∃ c, mapperWrite s a w = { s with cart := c } := by
  unfold mapperWrite mapper1Write mapper2Write mapper3Write mapper4Write ramEnableWrite setRomBank
  repeat' split
  all_goals exact ⟨_, rfl⟩

theorem pageWrite_untouched (s : State) (i v : Byte) : Untouched s (pageWrite s i v) := by
  unfold pageWrite
  split
  case h_13 => obtain ⟨o, h⟩ := oamDmaWrite_shape s v; rw [h]; constructor <;> rfl
  case h_25 => obtain ⟨a, d, h⟩ := hdma5Write_shape s v; rw [h]; constructor <;> rfl
  case h_12 => constructor <;> simp
  all_goals constructor <;> rfl

/-- What a write through the Bus leaves alone, wherever it lands (rule R73). -/
theorem memWrite_untouched (s : State) (a : Word) (v : Byte) : Untouched s (memWrite s a v) := by
  unfold memWrite
  split
  · obtain ⟨c, h⟩ := mapperWrite_shape s a v; rw [h]; constructor <;> rfl
  all_goals first | exact pageWrite_untouched s _ v | (constructor <;> rfl)

/-- No register of the page is mapper state: only a write below 0x8000 or to external RAM touches the cartridge. -/
theorem pageWrite_cart (s : State) (i v : Byte) : (pageWrite s i v).cart = s.cart := by
  unfold pageWrite
  split
  case h_12 => simp only [coincidenceUpdate, raiseIf]; split <;> rfl
  case h_13 => obtain ⟨o, h⟩ := oamDmaWrite_shape s v; rw [h]
  case h_25 => obtain ⟨m, d, h⟩ := hdma5Write_shape s v; rw [h]
  all_goals rfl

/-- No write moves the pixel processor: the line, the mode and the counter change by its own steps only. -/
theorem memWrite_position (s : State) (a : Word) (v : Byte) :
    (memWrite s a v).lcd.ly = s.lcd.ly ∧ (memWrite s a v).lcd.mode = s.lcd.mode ∧
      (memWrite s a v).lcd.counter = s.lcd.counter := by
  unfold memWrite
  split
  case h_1 => obtain ⟨c, h⟩ := mapperWrite_shape s a v; rw [h]; exact ⟨rfl, rfl, rfl⟩
  case h_7 i =>
    unfold pageWrite
    split
    case h_12 => simp only [coincidenceUpdate, raiseIf]; split <;> exact ⟨rfl, rfl, rfl⟩
    case h_13 => obtain ⟨o, h⟩ := oamDmaWrite_shape s v; rw [h]; exact ⟨rfl, rfl, rfl⟩
    case h_25 => obtain ⟨m, d, h⟩ := hdma5Write_shape s v; rw [h]; exact ⟨rfl, rfl, rfl⟩
    all_goals exact ⟨rfl, rfl, rfl⟩
  all_goals exact ⟨rfl, rfl, rfl⟩

@[simp] theorem memWrite_cfg (s : State) (a : Word) (v : Byte) : (memWrite s a v).cfg = s.cfg :=
  (memWrite_untouched s a v).cfg

@[simp] theorem memWrite_regs (s : State) (a : Word) (v : Byte) : (memWrite s a v).regs = s.regs :=
  (memWrite_untouched s a v).regs

@[simp] theorem memWrite_host (s : State) (a : Word) (v : Byte) : (memWrite s a v).host = s.host :=
  (memWrite_untouched s a v).host

/-! ### No write looks at a register of the CPU -/
theorem memRead_withRegs (s : State) (g : Regs) (a : Word) : memRead (s.withRegs g) a = memRead s a := rfl

theorem place_withRegs (s : State) (g : Regs) (a : Word) : place (s.withRegs g) a = place s a := rfl

theorem copyByte_withRegs (s : State) (g : Regs) (i : Nat) :
    copyByte (s.withRegs g) i = (copyByte s i).withRegs g := rfl

theorem foldl_commutes {α β : Type} (k : β → β) (f : β → α → β) (h : ∀ b a, f (k b) a = k (f b a)) (l : List α) (b : β) :
    l.foldl f (k b) = k (l.foldl f b) := by
  induction l generalizing b with
  | nil => rfl
  | cons a r ih => rw [List.foldl_cons, h, ih, List.foldl_cons]

theorem copyBlock_withRegs (s : State) (g : Regs) : copyBlock (s.withRegs g) = (copyBlock s).withRegs g := by
  have h := foldl_commutes (fun u => u.withRegs g) copyByte (fun u i => copyByte_withRegs u g i) (List.range 16) s
  unfold copyBlock
  generalize (List.range 16).foldl copyByte s = u at h
  rw [h]
  rfl

theorem copyBlocks_withRegs (k : Nat) (s : State) (g : Regs) :
    copyBlocks k (s.withRegs g) = (copyBlocks k s).withRegs g := by
  induction k generalizing s with
  | zero => rfl
  | succ k ih => rw [copyBlocks, copyBlock_withRegs, ih, copyBlocks]

theorem oamDmaWrite_withRegs (s : State) (g : Regs) (w : Byte) :
    oamDmaWrite (s.withRegs g) w = (oamDmaWrite s w).withRegs g := by
  unfold oamDmaWrite
  generalize List.range 160 = l
  exact foldl_commutes (fun u => u.withRegs g) (oamCopyByte w) (fun u i => rfl) l
      { s with dma := { s.dma with port := w } }

theorem hdma5Write_withRegs (s : State) (g : Regs) (w : Byte) :
    hdma5Write (s.withRegs g) w = (hdma5Write s w).withRegs g := by
  unfold hdma5Write
  by_cases h : (s.dma.active && !bit w 7) = true
  · rw [if_pos h, if_pos (show ((s.withRegs g).dma.active && !bit w 7) = true from h)]; rfl
  · rw [if_neg h, if_neg (show ¬ ((s.withRegs g).dma.active && !bit w 7) = true from h)]
    dsimp only
    by_cases h7 : bit w 7 = true
    · rw [if_pos h7, if_pos h7]; rfl
    · rw [if_neg h7, if_neg h7]
      exact copyBlocks_withRegs _ { s with dma := { s.dma with rem := (w &&& 0x7F#8) + 1#8 } } g

theorem mapperWrite_withRegs (s : State) (g : Regs) (a : Word) (w : Byte) :
    mapperWrite (s.withRegs g) a w = (mapperWrite s a w).withRegs g := by
  cases hm : s.cfg.mapper <;> simp only [mapperWrite, hm, withRegs_cfg]
  · unfold mapper1Write
    by_cases h1 : a.toNat < 0x2000
    · rw [if_pos h1, if_pos h1]; rfl
    rw [if_neg h1, if_neg h1]
    by_cases h2 : a.toNat < 0x4000
    · rw [if_pos h2, if_pos h2]; rfl
    rw [if_neg h2, if_neg h2]
    by_cases h3 : a.toNat < 0x6000
    · rw [if_pos h3, if_pos h3]
      by_cases hb : s.cart.bankMode = true
      · rw [if_pos hb, if_pos (show (s.withRegs g).cart.bankMode = true from hb)]; rfl
      · rw [if_neg hb, if_neg (show ¬ (s.withRegs g).cart.bankMode = true from hb)]; rfl
    · rw [if_neg h3, if_neg h3]; rfl
  all_goals
    simp only [mapper2Write, mapper3Write, mapper4Write]
    repeat' split
    all_goals rfl

theorem raiseIf_withRegs (c : Bool) (n : Source) (s : State) (g : Regs) :
    raiseIf c n (s.withRegs g) = (raiseIf c n s).withRegs g := by cases c <;> rfl

theorem coincidenceUpdate_withRegs (s : State) (g : Regs) :
    coincidenceUpdate (s.withRegs g) = (coincidenceUpdate s).withRegs g := by
  unfold coincidenceUpdate
  dsimp only
  rw [raiseIf_withRegs]
  rfl

theorem pageWrite_withRegs (s : State) (g : Regs) (i v : Byte) :
    pageWrite (s.withRegs g) i v = (pageWrite s i v).withRegs g := by
  unfold pageWrite
  simp only [withRegs_cfg]
  split
  case h_12 => exact coincidenceUpdate_withRegs { s with lcd := { s.lcd with lyc := v } } g
  case h_13 => exact oamDmaWrite_withRegs s g v
  case h_25 => exact hdma5Write_withRegs s g v
  all_goals rfl

/-- No write looks at a register of the CPU. -/
theorem memWrite_withRegs (s : State) (g : Regs) (a : Word) (v : Byte) :
    memWrite (s.withRegs g) a v = (memWrite s a v).withRegs g := by
  unfold memWrite
  rw [place_withRegs]
  split
  · exact mapperWrite_withRegs s g a v
  all_goals first | rfl | exact pageWrite_withRegs s g _ v

end Sys2Proof.Machine
end

