-- ==== Sys2Proof/Laws/Exec.lean ====
section
/-! SUPPORT. What an instruction can do, said once: `Runs`. Every meaning ends in a next state that is reached by
writing registers, writing run state and writing bytes through the Bus, in 4 to 24 cycles. -/

namespace Sys2Proof.Machine

/-- A state reached by the three primitive effects of an instruction. A register write leaves `F` alone or leaves its
low nibble clear (rule R21). On generation 1 a run-state write leaves the speed alone (rule R27). -/
inductive Reach (s : State) : State → Prop
  | refl : Reach s s
  | regs {t : State} (g : Regs) (h : Reach s t) (hf : g.f = t.regs.f ∨ g.f &&& 0x0F#8 = 0#8) : Reach s (t.withRegs g)
  | run {t : State} (r : Run) (h : Reach s t)
      (hr : t.cfg.gen = .one → r.ds = t.run.ds ∧ r.speedArmed = t.run.speedArmed) :
      Reach s { t with run := r }
  | write {t : State} (a : Word) (v : Byte) (h : Reach s t) : Reach s (memWrite t a v)

/-- The possible counts (rule R7). -/
abbrev Cost (k : Nat) : Prop := k ∈ [4, 8, 12, 16, 20, 24]

/-- What one instruction does: a reached state, at a legal cost. -/
structure Runs (s t : State) : Prop where
  reach : Reach s t
  cost : Cost t.run.cycles

/-- A property the three primitive effects keep is kept by every reached state. -/
theorem Reach.keeps {P : State → Prop} {s t : State} (h : Reach s t) (hs : P s)
    (hregs : ∀ u g, P u → (g.f = u.regs.f ∨ g.f &&& 0x0F#8 = 0#8) → P (u.withRegs g))
    (hrun : ∀ u (r : Run), P u → (u.cfg.gen = .one → r.ds = u.run.ds ∧ r.speedArmed = u.run.speedArmed) →
      P { u with run := r })
    (hwrite : ∀ u a v, P u → P (memWrite u a v)) : P t := by
  induction h with
  | refl => exact hs
  | regs g _ hf ih => exact hregs _ g ih hf
  | run r _ hr ih => exact hrun _ r ih hr
  | write a v _ ih => exact hwrite _ a v ih

theorem Reach.cfg {s t : State} (h : Reach s t) : t.cfg = s.cfg :=
  h.keeps (P := fun u => u.cfg = s.cfg) rfl (fun _ _ h _ => h) (fun _ _ h _ => h) (fun u a v h => by simpa using h)

theorem Reach.host {s t : State} (h : Reach s t) : t.host = s.host :=
  h.keeps (P := fun u => u.host = s.host) rfl (fun _ _ h _ => h) (fun _ _ h _ => h) (fun u a v h => by simpa using h)

theorem Reach.trans {s t u : State} (h : Reach s t) (k : Reach t u) : Reach s u := by
  induction k with
  | refl => exact h
  | regs g _ hf ih => exact ih.regs g hf
  | run r _ hr ih => exact ih.run r hr
  | write a v _ ih => exact ih.write a v

theorem Reach.spend {s t : State} (h : Reach s t) (n : Nat) : Reach s (t.spend n) :=
  h.run (t.run.withCycles n) (fun _ => ⟨rfl, rfl⟩)

theorem Reach.jump {s t : State} (h : Reach s t) (a : Word) : Reach s (t.jump a) := h.regs _ (.inl rfl)

theorem flags_low (z n h c : Bool) : flags z n h c &&& 0x0F#8 = 0#8 := by
  cases z <;> cases n <;> cases h <;> cases c <;> rfl

theorem Reach.pushByte {s t : State} (h : Reach s t) (v : Byte) : Reach s (pushByte t v) :=
  (h.regs { t.regs with sp := t.regs.sp - 1#16 } (.inl rfl)).write _ v

theorem Reach.push {s t : State} (h : Reach s t) (v : Word) : Reach s (push16 t v) :=
  (h.pushByte (hiByte v)).pushByte (loByte v)

theorem alu_low (op : AluOp) (a v : Byte) (c : Bool) : (alu op a v c).flg &&& 0x0F#8 = 0#8 := by
  cases op <;> exact flags_low _ _ _ _

/-! ### One lemma for each shared operation -/

theorem spend_runs (k : Nat) (s : State) (hk : Cost k) : Runs s (s.spend k) := ⟨Reach.refl.spend k, hk⟩

theorem ldRegReg_runs (y z : Reg8) (s : State) : Runs s (ldRegReg y z s) :=
  ⟨(Reach.refl.regs _ (.inl (regs_set_f ..))).spend 4, by show Cost 4; decide⟩

theorem ldRegImm_runs (y : Reg8) (n : Byte) (s : State) : Runs s (ldRegImm y n s) :=
  ⟨(Reach.refl.regs _ (.inl (regs_set_f ..))).spend 8, by show Cost 8; decide⟩

theorem ldRegMem_runs (y : Reg8) (a : Word) (k : Nat) (s : State) (hk : Cost k) : Runs s (ldRegMem y a k s) :=
  ⟨(Reach.refl.regs _ (.inl (regs_set_f ..))).spend k, hk⟩

theorem ldMem_runs (a : Word) (v : Byte) (k : Nat) (s : State) (hk : Cost k) : Runs s (ldMem a v k s) :=
  ⟨(Reach.refl.write a v).spend k, hk⟩

theorem ldHlStep_runs (d : Word) (s : State) : Runs s (ldHlStep d s) :=
  ⟨((Reach.refl.write _ _).regs ((memWrite s s.regs.hl s.regs.a).regs.setHl _) (.inl rfl)).spend 8,
    by show Cost 8; decide⟩

theorem ldAHlStep_runs (d : Word) (s : State) : Runs s (ldAHlStep d s) :=
  ⟨(Reach.refl.regs ({ s.regs with a := memRead s s.regs.hl }.setHl (s.regs.hl + d)) (.inl rfl)).spend 8, by show Cost 8; decide⟩

theorem ldPair_runs (p : Rp) (nn : Word) (s : State) : Runs s (ldPair p nn s) :=
  ⟨(Reach.refl.regs _ (.inl (setRp_f ..))).spend 12, by show Cost 12; decide⟩

theorem ldMemSp_runs (a : Word) (s : State) : Runs s (ldMemSp a s) :=
  ⟨((Reach.refl.write _ _).write _ _).spend 20, by show Cost 20; decide⟩

theorem ldSpHl_runs (s : State) : Runs s (ldSpHl s) :=
  ⟨(Reach.refl.regs { s.regs with sp := s.regs.hl } (.inl rfl)).spend 8, by show Cost 8; decide⟩

theorem ldHlSp_runs (e : Byte) (s : State) : Runs s (ldHlSp e s) :=
  ⟨(Reach.refl.regs _ (.inr (flags_low ..))).spend 12, by show Cost 12; decide⟩

theorem pushPair_runs (p : Rp2) (s : State) : Runs s (pushPair p s) :=
  ⟨(Reach.refl.push _).spend 16, by show Cost 16; decide⟩

theorem popPair_runs (p : Rp2) (s : State) : Runs s (popPair p s) :=
  ⟨(Reach.refl.regs _ (by
      cases p
      · exact .inl rfl
      · exact .inl rfl
      · exact .inl rfl
      · refine .inr ?_
        show loByte (popVal s) &&& 0xF0#8 &&& 0x0F#8 = 0#8
        rw [BitVec.and_assoc]; simp)).spend 12, by show Cost 12; decide⟩

theorem aluOp_runs (op : AluOp) (v : Byte) (k : Nat) (s : State) (hk : Cost k) : Runs s (aluOp op v k s) :=
  ⟨(Reach.refl.regs _ (.inr (alu_low ..))).spend k, hk⟩

theorem incReg_runs (y : Reg8) (s : State) : Runs s (incReg y s) :=
  ⟨(Reach.refl.regs _ (.inr (flags_low ..))).spend 4, by show Cost 4; decide⟩

theorem decReg_runs (y : Reg8) (s : State) : Runs s (decReg y s) :=
  ⟨(Reach.refl.regs _ (.inr (flags_low ..))).spend 4, by show Cost 4; decide⟩

theorem modifyHl_reach (v f : Byte) (k : Nat) (s : State) (hf : f &&& 0x0F#8 = 0#8) :
    Reach s (modifyHl { val := v, flg := f } k s) :=
  ((Reach.refl.regs _ (.inr hf)).write _ _).spend k

theorem daaAcc_runs (s : State) : Runs s (daaAcc s) :=
  ⟨(Reach.refl.regs _ (.inr (flags_low ..))).spend 4, by show Cost 4; decide⟩

theorem complement_runs (s : State) : Runs s (complement s) :=
  ⟨(Reach.refl.regs _ (.inr (flags_low ..))).spend 4, by show Cost 4; decide⟩

theorem setCarry_runs (c : Bool) (s : State) : Runs s (setCarry c s) :=
  ⟨(Reach.refl.regs _ (.inr (flags_low ..))).spend 4, by show Cost 4; decide⟩

theorem addHlPair_runs (p : Rp) (s : State) : Runs s (addHlPair p s) :=
  ⟨(Reach.refl.regs _ (.inr (flags_low ..))).spend 8, by show Cost 8; decide⟩

theorem stepPair_runs (d : Word) (p : Rp) (s : State) : Runs s (stepPair d p s) :=
  ⟨(Reach.refl.regs _ (.inl (setRp_f ..))).spend 8, by show Cost 8; decide⟩

theorem addSp_runs (e : Byte) (s : State) : Runs s (addSp e s) :=
  ⟨(Reach.refl.regs _ (.inr (flags_low ..))).spend 16, by show Cost 16; decide⟩

theorem rotateAcc_runs (op : RotOp) (s : State) : Runs s (rotateAcc op s) :=
  ⟨(Reach.refl.regs _ (.inr (flags_low ..))).spend 4, by show Cost 4; decide⟩

theorem rotReg_runs (op : RotOp) (z : Reg8) (s : State) : Runs s (rotReg op z s) :=
  ⟨(Reach.refl.regs _ (.inr (flags_low ..))).spend 8, by show Cost 8; decide⟩

theorem rotHl_runs (op : RotOp) (s : State) : Runs s (rotHl op s) :=
  ⟨modifyHl_reach _ _ 16 s (flags_low ..), by show Cost 16; decide⟩

theorem bitTest_runs (b : Oct) (v : Byte) (k : Nat) (s : State) (hk : Cost k) : Runs s (bitTest b v k s) :=
  ⟨(Reach.refl.regs _ (.inr (flags_low ..))).spend k, hk⟩

theorem resReg_runs (b : Oct) (z : Reg8) (s : State) : Runs s (resReg b z s) :=
  ⟨(Reach.refl.regs _ (.inl (regs_set_f ..))).spend 8, by show Cost 8; decide⟩

theorem setReg_runs (b : Oct) (z : Reg8) (s : State) : Runs s (setReg b z s) :=
  ⟨(Reach.refl.regs _ (.inl (regs_set_f ..))).spend 8, by show Cost 8; decide⟩

theorem resHl_runs (b : Oct) (s : State) : Runs s (resHl b s) :=
  ⟨(Reach.refl.write _ _).spend 16, by show Cost 16; decide⟩

theorem setHl_runs (b : Oct) (s : State) : Runs s (setHl b s) :=
  ⟨(Reach.refl.write _ _).spend 16, by show Cost 16; decide⟩

theorem jumpTo_runs (a : Word) (k : Nat) (s : State) (hk : Cost k) : Runs s (jumpTo a k s) :=
  ⟨(Reach.refl.jump a).spend k, hk⟩

theorem callTo_runs (a : Word) (k : Nat) (s : State) (hk : Cost k) : Runs s (callTo a k s) :=
  ⟨((Reach.refl.push _).jump a).spend k, hk⟩

theorem returnTo_runs (k : Nat) (s : State) (hk : Cost k) : Runs s (returnTo k s) :=
  ⟨(Reach.refl.regs { popRegs s.regs with pc := popVal s } (.inl rfl)).spend k, hk⟩

theorem ifCond_runs (cc : Cond) (f : State → State) (k : Nat) (s : State) (hf : Runs s (f s)) (hk : Cost k) :
    Runs s (ifCond cc f k s) := by
  unfold ifCond
  split
  · exact hf
  · exact spend_runs k s hk

theorem jpCond_runs (cc : Cond) (a : Word) (s : State) : Runs s (jpCond cc a s) :=
  ifCond_runs _ _ _ _ (jumpTo_runs _ _ _ (by decide)) (by decide)

theorem jrCond_runs (cc : Cond) (e : Byte) (s : State) : Runs s (jrCond cc e s) :=
  ifCond_runs _ _ _ _ (jumpTo_runs _ _ _ (by decide)) (by decide)

theorem callCond_runs (cc : Cond) (a : Word) (s : State) : Runs s (callCond cc a s) :=
  ifCond_runs _ _ _ _ (callTo_runs _ _ _ (by decide)) (by decide)

theorem retCond_runs (cc : Cond) (s : State) : Runs s (retCond cc s) :=
  ifCond_runs _ _ _ _ (returnTo_runs _ _ (by decide)) (by decide)

theorem restart_runs (y : Oct) (s : State) : Runs s (restart y s) := callTo_runs _ _ _ (by decide)

theorem returnFromInterrupt_runs (s : State) : Runs s ((returnFromInterrupt s).spend 16) :=
  ⟨((Reach.refl.regs { popRegs s.regs with pc := popVal s } (.inl rfl)).run
      { s.run with ime := true, eiDelay := .zero } (fun _ => ⟨rfl, rfl⟩)).spend 16, by show Cost 16; decide⟩

theorem haltCpu_runs (s : State) : Runs s (haltCpu s) :=
  ⟨Reach.refl.run _ (fun _ => ⟨rfl, rfl⟩), by show Cost 4; decide⟩

theorem stopCpu_runs (s : State) : Runs s (stopCpu s) := by
  unfold stopCpu
  split
  · rename_i h
    have h2 : s.cfg.gen = .two := by
      simp only [speedSwitch, Bool.and_eq_true, decide_eq_true_eq] at h
      exact h.1
    exact ⟨Reach.refl.run _ (fun h1 => by rw [h2] at h1; cases h1), by show Cost 4; decide⟩
  · exact haltCpu_runs s

theorem disableInterrupts_runs (s : State) : Runs s (disableInterrupts s) :=
  ⟨Reach.refl.run _ (fun _ => ⟨rfl, rfl⟩), by show Cost 4; decide⟩

theorem enableInterrupts_runs (s : State) : Runs s (enableInterrupts s) :=
  ⟨Reach.refl.run _ (fun _ => ⟨rfl, rfl⟩), by show Cost 4; decide⟩

theorem unassigned_runs (s : State) : Runs s (unassigned s) := by
  unfold unassigned
  split
  · exact ⟨Reach.refl.run _ (fun _ => ⟨rfl, rfl⟩), by show Cost 4; decide⟩
  · exact spend_runs 4 s (by decide)

theorem extPage_runs (ext : Byte) (s : State) : Runs s (extPage ext s) := by
  unfold extPage
  split
  · exact rotReg_runs _ _ _
  · exact rotHl_runs _ _
  · exact bitTest_runs _ _ _ _ (by decide)
  · exact bitTest_runs _ _ _ _ (by decide)
  · exact resReg_runs _ _ _
  · exact resHl_runs _ _
  · exact setReg_runs _ _ _
  · exact setHl_runs _ _

theorem prefixPage_runs (s : State) : Runs s (prefixPage s) := by
  have h := extPage_runs (memRead s s.regs.pc) (s.jump (s.regs.pc + 1#16))
  exact ⟨(Reach.refl.jump _).trans h.reach, h.cost⟩

/-! ### Every instruction -/

/-- Every instruction completes, and does no more than `Runs` says. -/
theorem exec_runs : ∀ (i : Instr) (s : State), ∃ t, exec i s = .next t ∧ Runs s t
  | .nop, s => ⟨_, rfl, spend_runs _ s (by decide)⟩
  | .ld_bc_d16 _, s => ⟨_, rfl, ldPair_runs _ _ s⟩
  | .ld_atBC_a, s => ⟨_, rfl, ldMem_runs _ _ _ s (by decide)⟩
  | .inc_bc, s => ⟨_, rfl, stepPair_runs _ _ s⟩
  | .inc_b, s => ⟨_, rfl, incReg_runs _ s⟩
  | .dec_b, s => ⟨_, rfl, decReg_runs _ s⟩
  | .ld_b_d8 _, s => ⟨_, rfl, ldRegImm_runs _ _ s⟩
  | .rlca, s => ⟨_, rfl, rotateAcc_runs _ s⟩
  | .ld_atA16_sp _, s => ⟨_, rfl, ldMemSp_runs _ s⟩
  | .add_hl_bc, s => ⟨_, rfl, addHlPair_runs _ s⟩
  | .ld_a_atBC, s => ⟨_, rfl, ldRegMem_runs _ _ _ s (by decide)⟩
  | .dec_bc, s => ⟨_, rfl, stepPair_runs _ _ s⟩
  | .inc_c, s => ⟨_, rfl, incReg_runs _ s⟩
  | .dec_c, s => ⟨_, rfl, decReg_runs _ s⟩
  | .ld_c_d8 _, s => ⟨_, rfl, ldRegImm_runs _ _ s⟩
  | .rrca, s => ⟨_, rfl, rotateAcc_runs _ s⟩
  | .stop _, s => ⟨_, rfl, stopCpu_runs s⟩
  | .ld_de_d16 _, s => ⟨_, rfl, ldPair_runs _ _ s⟩
  | .ld_atDE_a, s => ⟨_, rfl, ldMem_runs _ _ _ s (by decide)⟩
  | .inc_de, s => ⟨_, rfl, stepPair_runs _ _ s⟩
  | .inc_d, s => ⟨_, rfl, incReg_runs _ s⟩
  | .dec_d, s => ⟨_, rfl, decReg_runs _ s⟩
  | .ld_d_d8 _, s => ⟨_, rfl, ldRegImm_runs _ _ s⟩
  | .rla, s => ⟨_, rfl, rotateAcc_runs _ s⟩
  | .jr_e8 _, s => ⟨_, rfl, jumpTo_runs _ _ s (by decide)⟩
  | .add_hl_de, s => ⟨_, rfl, addHlPair_runs _ s⟩
  | .ld_a_atDE, s => ⟨_, rfl, ldRegMem_runs _ _ _ s (by decide)⟩
  | .dec_de, s => ⟨_, rfl, stepPair_runs _ _ s⟩
  | .inc_e, s => ⟨_, rfl, incReg_runs _ s⟩
  | .dec_e, s => ⟨_, rfl, decReg_runs _ s⟩
  | .ld_e_d8 _, s => ⟨_, rfl, ldRegImm_runs _ _ s⟩
  | .rra, s => ⟨_, rfl, rotateAcc_runs _ s⟩
  | .jr_nz_e8 _, s => ⟨_, rfl, jrCond_runs _ _ s⟩
  | .ld_hl_d16 _, s => ⟨_, rfl, ldPair_runs _ _ s⟩
  | .ld_atHLi_a, s => ⟨_, rfl, ldHlStep_runs _ s⟩
  | .inc_hl, s => ⟨_, rfl, stepPair_runs _ _ s⟩
  | .inc_h, s => ⟨_, rfl, incReg_runs _ s⟩
  | .dec_h, s => ⟨_, rfl, decReg_runs _ s⟩
  | .ld_h_d8 _, s => ⟨_, rfl, ldRegImm_runs _ _ s⟩
  | .daa, s => ⟨_, rfl, daaAcc_runs s⟩
  | .jr_z_e8 _, s => ⟨_, rfl, jrCond_runs _ _ s⟩
  | .add_hl_hl, s => ⟨_, rfl, addHlPair_runs _ s⟩
  | .ld_a_atHLi, s => ⟨_, rfl, ldAHlStep_runs _ s⟩
  | .dec_hl, s => ⟨_, rfl, stepPair_runs _ _ s⟩
  | .inc_l, s => ⟨_, rfl, incReg_runs _ s⟩
  | .dec_l, s => ⟨_, rfl, decReg_runs _ s⟩
  | .ld_l_d8 _, s => ⟨_, rfl, ldRegImm_runs _ _ s⟩
  | .cpl, s => ⟨_, rfl, complement_runs s⟩
  | .jr_nc_e8 _, s => ⟨_, rfl, jrCond_runs _ _ s⟩
  | .ld_sp_d16 _, s => ⟨_, rfl, ldPair_runs _ _ s⟩
  | .ld_atHLd_a, s => ⟨_, rfl, ldHlStep_runs _ s⟩
  | .inc_sp, s => ⟨_, rfl, stepPair_runs _ _ s⟩
  | .inc_atHL, s => ⟨_, rfl, ⟨modifyHl_reach _ _ 12 s (flags_low ..), by show Cost 12; decide⟩⟩
  | .dec_atHL, s => ⟨_, rfl, ⟨modifyHl_reach _ _ 12 s (flags_low ..), by show Cost 12; decide⟩⟩
  | .ld_atHL_d8 _, s => ⟨_, rfl, ldMem_runs _ _ _ s (by decide)⟩
  | .scf, s => ⟨_, rfl, setCarry_runs _ s⟩
  | .jr_c_e8 _, s => ⟨_, rfl, jrCond_runs _ _ s⟩
  | .add_hl_sp, s => ⟨_, rfl, addHlPair_runs _ s⟩
  | .ld_a_atHLd, s => ⟨_, rfl, ldAHlStep_runs _ s⟩
  | .dec_sp, s => ⟨_, rfl, stepPair_runs _ _ s⟩
  | .inc_a, s => ⟨_, rfl, incReg_runs _ s⟩
  | .dec_a, s => ⟨_, rfl, decReg_runs _ s⟩
  | .ld_a_d8 _, s => ⟨_, rfl, ldRegImm_runs _ _ s⟩
  | .ccf, s => ⟨_, rfl, setCarry_runs _ s⟩
  | .ld_b_b, s => ⟨_, rfl, ldRegReg_runs _ _ s⟩
  | .ld_b_c, s => ⟨_, rfl, ldRegReg_runs _ _ s⟩
  | .ld_b_d, s => ⟨_, rfl, ldRegReg_runs _ _ s⟩
  | .ld_b_e, s => ⟨_, rfl, ldRegReg_runs _ _ s⟩
  | .ld_b_h, s => ⟨_, rfl, ldRegReg_runs _ _ s⟩
  | .ld_b_l, s => ⟨_, rfl, ldRegReg_runs _ _ s⟩
  | .ld_b_atHL, s => ⟨_, rfl, ldRegMem_runs _ _ _ s (by decide)⟩
  | .ld_b_a, s => ⟨_, rfl, ldRegReg_runs _ _ s⟩
  | .ld_c_b, s => ⟨_, rfl, ldRegReg_runs _ _ s⟩
  | .ld_c_c, s => ⟨_, rfl, ldRegReg_runs _ _ s⟩
  | .ld_c_d, s => ⟨_, rfl, ldRegReg_runs _ _ s⟩
  | .ld_c_e, s => ⟨_, rfl, ldRegReg_runs _ _ s⟩
  | .ld_c_h, s => ⟨_, rfl, ldRegReg_runs _ _ s⟩
  | .ld_c_l, s => ⟨_, rfl, ldRegReg_runs _ _ s⟩
  | .ld_c_atHL, s => ⟨_, rfl, ldRegMem_runs _ _ _ s (by decide)⟩
  | .ld_c_a, s => ⟨_, rfl, ldRegReg_runs _ _ s⟩
  | .ld_d_b, s => ⟨_, rfl, ldRegReg_runs _ _ s⟩
  | .ld_d_c, s => ⟨_, rfl, ldRegReg_runs _ _ s⟩
  | .ld_d_d, s => ⟨_, rfl, ldRegReg_runs _ _ s⟩
  | .ld_d_e, s => ⟨_, rfl, ldRegReg_runs _ _ s⟩
  | .ld_d_h, s => ⟨_, rfl, ldRegReg_runs _ _ s⟩
  | .ld_d_l, s => ⟨_, rfl, ldRegReg_runs _ _ s⟩
  | .ld_d_atHL, s => ⟨_, rfl, ldRegMem_runs _ _ _ s (by decide)⟩
  | .ld_d_a, s => ⟨_, rfl, ldRegReg_runs _ _ s⟩
  | .ld_e_b, s => ⟨_, rfl, ldRegReg_runs _ _ s⟩
  | .ld_e_c, s => ⟨_, rfl, ldRegReg_runs _ _ s⟩
  | .ld_e_d, s => ⟨_, rfl, ldRegReg_runs _ _ s⟩
  | .ld_e_e, s => ⟨_, rfl, ldRegReg_runs _ _ s⟩
  | .ld_e_h, s => ⟨_, rfl, ldRegReg_runs _ _ s⟩
  | .ld_e_l, s => ⟨_, rfl, ldRegReg_runs _ _ s⟩
  | .ld_e_atHL, s => ⟨_, rfl, ldRegMem_runs _ _ _ s (by decide)⟩
  | .ld_e_a, s => ⟨_, rfl, ldRegReg_runs _ _ s⟩
  | .ld_h_b, s => ⟨_, rfl, ldRegReg_runs _ _ s⟩
  | .ld_h_c, s => ⟨_, rfl, ldRegReg_runs _ _ s⟩
  | .ld_h_d, s => ⟨_, rfl, ldRegReg_runs _ _ s⟩
  | .ld_h_e, s => ⟨_, rfl, ldRegReg_runs _ _ s⟩
  | .ld_h_h, s => ⟨_, rfl, ldRegReg_runs _ _ s⟩
  | .ld_h_l, s => ⟨_, rfl, ldRegReg_runs _ _ s⟩
  | .ld_h_atHL, s => ⟨_, rfl, ldRegMem_runs _ _ _ s (by decide)⟩
  | .ld_h_a, s => ⟨_, rfl, ldRegReg_runs _ _ s⟩
  | .ld_l_b, s => ⟨_, rfl, ldRegReg_runs _ _ s⟩
  | .ld_l_c, s => ⟨_, rfl, ldRegReg_runs _ _ s⟩
  | .ld_l_d, s => ⟨_, rfl, ldRegReg_runs _ _ s⟩
  | .ld_l_e, s => ⟨_, rfl, ldRegReg_runs _ _ s⟩
  | .ld_l_h, s => ⟨_, rfl, ldRegReg_runs _ _ s⟩
  | .ld_l_l, s => ⟨_, rfl, ldRegReg_runs _ _ s⟩
  | .ld_l_atHL, s => ⟨_, rfl, ldRegMem_runs _ _ _ s (by decide)⟩
  | .ld_l_a, s => ⟨_, rfl, ldRegReg_runs _ _ s⟩
  | .ld_atHL_b, s => ⟨_, rfl, ldMem_runs _ _ _ s (by decide)⟩
  | .ld_atHL_c, s => ⟨_, rfl, ldMem_runs _ _ _ s (by decide)⟩
  | .ld_atHL_d, s => ⟨_, rfl, ldMem_runs _ _ _ s (by decide)⟩
  | .ld_atHL_e, s => ⟨_, rfl, ldMem_runs _ _ _ s (by decide)⟩
  | .ld_atHL_h, s => ⟨_, rfl, ldMem_runs _ _ _ s (by decide)⟩
  | .ld_atHL_l, s => ⟨_, rfl, ldMem_runs _ _ _ s (by decide)⟩
  | .halt, s => ⟨_, rfl, haltCpu_runs s⟩
  | .ld_atHL_a, s => ⟨_, rfl, ldMem_runs _ _ _ s (by decide)⟩
  | .ld_a_b, s => ⟨_, rfl, ldRegReg_runs _ _ s⟩
  | .ld_a_c, s => ⟨_, rfl, ldRegReg_runs _ _ s⟩
  | .ld_a_d, s => ⟨_, rfl, ldRegReg_runs _ _ s⟩
  | .ld_a_e, s => ⟨_, rfl, ldRegReg_runs _ _ s⟩
  | .ld_a_h, s => ⟨_, rfl, ldRegReg_runs _ _ s⟩
  | .ld_a_l, s => ⟨_, rfl, ldRegReg_runs _ _ s⟩
  | .ld_a_atHL, s => ⟨_, rfl, ldRegMem_runs _ _ _ s (by decide)⟩
  | .ld_a_a, s => ⟨_, rfl, ldRegReg_runs _ _ s⟩
  | .add_a_b, s => ⟨_, rfl, aluOp_runs _ _ _ s (by decide)⟩
  | .add_a_c, s => ⟨_, rfl, aluOp_runs _ _ _ s (by decide)⟩
  | .add_a_d, s => ⟨_, rfl, aluOp_runs _ _ _ s (by decide)⟩
  | .add_a_e, s => ⟨_, rfl, aluOp_runs _ _ _ s (by decide)⟩
  | .add_a_h, s => ⟨_, rfl, aluOp_runs _ _ _ s (by decide)⟩
  | .add_a_l, s => ⟨_, rfl, aluOp_runs _ _ _ s (by decide)⟩
  | .add_a_atHL, s => ⟨_, rfl, aluOp_runs _ _ _ s (by decide)⟩
  | .add_a_a, s => ⟨_, rfl, aluOp_runs _ _ _ s (by decide)⟩
  | .adc_a_b, s => ⟨_, rfl, aluOp_runs _ _ _ s (by decide)⟩
  | .adc_a_c, s => ⟨_, rfl, aluOp_runs _ _ _ s (by decide)⟩
  | .adc_a_d, s => ⟨_, rfl, aluOp_runs _ _ _ s (by decide)⟩
  | .adc_a_e, s => ⟨_, rfl, aluOp_runs _ _ _ s (by decide)⟩
  | .adc_a_h, s => ⟨_, rfl, aluOp_runs _ _ _ s (by decide)⟩
  | .adc_a_l, s => ⟨_, rfl, aluOp_runs _ _ _ s (by decide)⟩
  | .adc_a_atHL, s => ⟨_, rfl, aluOp_runs _ _ _ s (by decide)⟩
  | .adc_a_a, s => ⟨_, rfl, aluOp_runs _ _ _ s (by decide)⟩
  | .sub_a_b, s => ⟨_, rfl, aluOp_runs _ _ _ s (by decide)⟩
  | .sub_a_c, s => ⟨_, rfl, aluOp_runs _ _ _ s (by decide)⟩
  | .sub_a_d, s => ⟨_, rfl, aluOp_runs _ _ _ s (by decide)⟩
  | .sub_a_e, s => ⟨_, rfl, aluOp_runs _ _ _ s (by decide)⟩
  | .sub_a_h, s => ⟨_, rfl, aluOp_runs _ _ _ s (by decide)⟩
  | .sub_a_l, s => ⟨_, rfl, aluOp_runs _ _ _ s (by decide)⟩
  | .sub_a_atHL, s => ⟨_, rfl, aluOp_runs _ _ _ s (by decide)⟩
  | .sub_a_a, s => ⟨_, rfl, aluOp_runs _ _ _ s (by decide)⟩
  | .sbc_a_b, s => ⟨_, rfl, aluOp_runs _ _ _ s (by decide)⟩
  | .sbc_a_c, s => ⟨_, rfl, aluOp_runs _ _ _ s (by decide)⟩
  | .sbc_a_d, s => ⟨_, rfl, aluOp_runs _ _ _ s (by decide)⟩
  | .sbc_a_e, s => ⟨_, rfl, aluOp_runs _ _ _ s (by decide)⟩
  | .sbc_a_h, s => ⟨_, rfl, aluOp_runs _ _ _ s (by decide)⟩
  | .sbc_a_l, s => ⟨_, rfl, aluOp_runs _ _ _ s (by decide)⟩
  | .sbc_a_atHL, s => ⟨_, rfl, aluOp_runs _ _ _ s (by decide)⟩
  | .sbc_a_a, s => ⟨_, rfl, aluOp_runs _ _ _ s (by decide)⟩
  | .and_a_b, s => ⟨_, rfl, aluOp_runs _ _ _ s (by decide)⟩
  | .and_a_c, s => ⟨_, rfl, aluOp_runs _ _ _ s (by decide)⟩
  | .and_a_d, s => ⟨_, rfl, aluOp_runs _ _ _ s (by decide)⟩
  | .and_a_e, s => ⟨_, rfl, aluOp_runs _ _ _ s (by decide)⟩
  | .and_a_h, s => ⟨_, rfl, aluOp_runs _ _ _ s (by decide)⟩
  | .and_a_l, s => ⟨_, rfl, aluOp_runs _ _ _ s (by decide)⟩
  | .and_a_atHL, s => ⟨_, rfl, aluOp_runs _ _ _ s (by decide)⟩
  | .and_a_a, s => ⟨_, rfl, aluOp_runs _ _ _ s (by decide)⟩
  | .xor_a_b, s => ⟨_, rfl, aluOp_runs _ _ _ s (by decide)⟩
  | .xor_a_c, s => ⟨_, rfl, aluOp_runs _ _ _ s (by decide)⟩
  | .xor_a_d, s => ⟨_, rfl, aluOp_runs _ _ _ s (by decide)⟩
  | .xor_a_e, s => ⟨_, rfl, aluOp_runs _ _ _ s (by decide)⟩
  | .xor_a_h, s => ⟨_, rfl, aluOp_runs _ _ _ s (by decide)⟩
  | .xor_a_l, s => ⟨_, rfl, aluOp_runs _ _ _ s (by decide)⟩
  | .xor_a_atHL, s => ⟨_, rfl, aluOp_runs _ _ _ s (by decide)⟩
  | .xor_a_a, s => ⟨_, rfl, aluOp_runs _ _ _ s (by decide)⟩
  | .or_a_b, s => ⟨_, rfl, aluOp_runs _ _ _ s (by decide)⟩
  | .or_a_c, s => ⟨_, rfl, aluOp_runs _ _ _ s (by decide)⟩
  | .or_a_d, s => ⟨_, rfl, aluOp_runs _ _ _ s (by decide)⟩
  | .or_a_e, s => ⟨_, rfl, aluOp_runs _ _ _ s (by decide)⟩
  | .or_a_h, s => ⟨_, rfl, aluOp_runs _ _ _ s (by decide)⟩
  | .or_a_l, s => ⟨_, rfl, aluOp_runs _ _ _ s (by decide)⟩
  | .or_a_atHL, s => ⟨_, rfl, aluOp_runs _ _ _ s (by decide)⟩
  | .or_a_a, s => ⟨_, rfl, aluOp_runs _ _ _ s (by decide)⟩
  | .cp_a_b, s => ⟨_, rfl, aluOp_runs _ _ _ s (by decide)⟩
  | .cp_a_c, s => ⟨_, rfl, aluOp_runs _ _ _ s (by decide)⟩
  | .cp_a_d, s => ⟨_, rfl, aluOp_runs _ _ _ s (by decide)⟩
  | .cp_a_e, s => ⟨_, rfl, aluOp_runs _ _ _ s (by decide)⟩
  | .cp_a_h, s => ⟨_, rfl, aluOp_runs _ _ _ s (by decide)⟩
  | .cp_a_l, s => ⟨_, rfl, aluOp_runs _ _ _ s (by decide)⟩
  | .cp_a_atHL, s => ⟨_, rfl, aluOp_runs _ _ _ s (by decide)⟩
  | .cp_a_a, s => ⟨_, rfl, aluOp_runs _ _ _ s (by decide)⟩
  | .ret_nz, s => ⟨_, rfl, retCond_runs _ s⟩
  | .pop_bc, s => ⟨_, rfl, popPair_runs _ s⟩
  | .jp_nz_a16 _, s => ⟨_, rfl, jpCond_runs _ _ s⟩
  | .jp_a16 _, s => ⟨_, rfl, jumpTo_runs _ _ s (by decide)⟩
  | .call_nz_a16 _, s => ⟨_, rfl, callCond_runs _ _ s⟩
  | .push_bc, s => ⟨_, rfl, pushPair_runs _ s⟩
  | .add_a_d8 _, s => ⟨_, rfl, aluOp_runs _ _ _ s (by decide)⟩
  | .rst_00h, s => ⟨_, rfl, restart_runs _ s⟩
  | .ret_z, s => ⟨_, rfl, retCond_runs _ s⟩
  | .ret, s => ⟨_, rfl, returnTo_runs _ s (by decide)⟩
  | .jp_z_a16 _, s => ⟨_, rfl, jpCond_runs _ _ s⟩
  | .cb_page, s => ⟨_, rfl, prefixPage_runs s⟩
  | .call_z_a16 _, s => ⟨_, rfl, callCond_runs _ _ s⟩
  | .call_a16 _, s => ⟨_, rfl, callTo_runs _ _ s (by decide)⟩
  | .adc_a_d8 _, s => ⟨_, rfl, aluOp_runs _ _ _ s (by decide)⟩
  | .rst_08h, s => ⟨_, rfl, restart_runs _ s⟩
  | .ret_nc, s => ⟨_, rfl, retCond_runs _ s⟩
  | .pop_de, s => ⟨_, rfl, popPair_runs _ s⟩
  | .jp_nc_a16 _, s => ⟨_, rfl, jpCond_runs _ _ s⟩
  | .illegal_d3, s => ⟨_, rfl, unassigned_runs s⟩
  | .call_nc_a16 _, s => ⟨_, rfl, callCond_runs _ _ s⟩
  | .push_de, s => ⟨_, rfl, pushPair_runs _ s⟩
  | .sub_a_d8 _, s => ⟨_, rfl, aluOp_runs _ _ _ s (by decide)⟩
  | .rst_10h, s => ⟨_, rfl, restart_runs _ s⟩
  | .ret_c, s => ⟨_, rfl, retCond_runs _ s⟩
  | .reti, s => ⟨_, rfl, returnFromInterrupt_runs s⟩
  | .jp_c_a16 _, s => ⟨_, rfl, jpCond_runs _ _ s⟩
  | .illegal_db, s => ⟨_, rfl, unassigned_runs s⟩
  | .call_c_a16 _, s => ⟨_, rfl, callCond_runs _ _ s⟩
  | .illegal_dd, s => ⟨_, rfl, unassigned_runs s⟩
  | .sbc_a_d8 _, s => ⟨_, rfl, aluOp_runs _ _ _ s (by decide)⟩
  | .rst_18h, s => ⟨_, rfl, restart_runs _ s⟩
  | .ldh_atA8_a _, s => ⟨_, rfl, ldMem_runs _ _ _ s (by decide)⟩
  | .pop_hl, s => ⟨_, rfl, popPair_runs _ s⟩
  | .ld_atC_a, s => ⟨_, rfl, ldMem_runs _ _ _ s (by decide)⟩
  | .illegal_e3, s => ⟨_, rfl, unassigned_runs s⟩
  | .illegal_e4, s => ⟨_, rfl, unassigned_runs s⟩
  | .push_hl, s => ⟨_, rfl, pushPair_runs _ s⟩
  | .and_a_d8 _, s => ⟨_, rfl, aluOp_runs _ _ _ s (by decide)⟩
  | .rst_20h, s => ⟨_, rfl, restart_runs _ s⟩
  | .add_sp_e8 _, s => ⟨_, rfl, addSp_runs _ s⟩
  | .jp_hl, s => ⟨_, rfl, jumpTo_runs _ _ s (by decide)⟩
  | .ld_atA16_a _, s => ⟨_, rfl, ldMem_runs _ _ _ s (by decide)⟩
  | .illegal_eb, s => ⟨_, rfl, unassigned_runs s⟩
  | .illegal_ec, s => ⟨_, rfl, unassigned_runs s⟩
  | .illegal_ed, s => ⟨_, rfl, unassigned_runs s⟩
  | .xor_a_d8 _, s => ⟨_, rfl, aluOp_runs _ _ _ s (by decide)⟩
  | .rst_28h, s => ⟨_, rfl, restart_runs _ s⟩
  | .ldh_a_atA8 _, s => ⟨_, rfl, ldRegMem_runs _ _ _ s (by decide)⟩
  | .pop_af, s => ⟨_, rfl, popPair_runs _ s⟩
  | .ld_a_atC, s => ⟨_, rfl, ldRegMem_runs _ _ _ s (by decide)⟩
  | .di, s => ⟨_, rfl, disableInterrupts_runs s⟩
  | .illegal_f4, s => ⟨_, rfl, unassigned_runs s⟩
  | .push_af, s => ⟨_, rfl, pushPair_runs _ s⟩
  | .or_a_d8 _, s => ⟨_, rfl, aluOp_runs _ _ _ s (by decide)⟩
  | .rst_30h, s => ⟨_, rfl, restart_runs _ s⟩
  | .ld_hl_spe8 _, s => ⟨_, rfl, ldHlSp_runs _ s⟩
  | .ld_sp_hl, s => ⟨_, rfl, ldSpHl_runs s⟩
  | .ld_a_atA16 _, s => ⟨_, rfl, ldRegMem_runs _ _ _ s (by decide)⟩
  | .ei, s => ⟨_, rfl, enableInterrupts_runs s⟩
  | .illegal_fc, s => ⟨_, rfl, unassigned_runs s⟩
  | .illegal_fd, s => ⟨_, rfl, unassigned_runs s⟩
  | .cp_a_d8 _, s => ⟨_, rfl, aluOp_runs _ _ _ s (by decide)⟩
  | .rst_38h, s => ⟨_, rfl, restart_runs _ s⟩
  | .rlc_b, s => ⟨_, rfl, rotReg_runs _ _ s⟩
  | .rlc_c, s => ⟨_, rfl, rotReg_runs _ _ s⟩
  | .rlc_d, s => ⟨_, rfl, rotReg_runs _ _ s⟩
  | .rlc_e, s => ⟨_, rfl, rotReg_runs _ _ s⟩
  | .rlc_h, s => ⟨_, rfl, rotReg_runs _ _ s⟩
  | .rlc_l, s => ⟨_, rfl, rotReg_runs _ _ s⟩
  | .rlc_atHL, s => ⟨_, rfl, rotHl_runs _ s⟩
  | .rlc_a, s => ⟨_, rfl, rotReg_runs _ _ s⟩
  | .rrc_b, s => ⟨_, rfl, rotReg_runs _ _ s⟩
  | .rrc_c, s => ⟨_, rfl, rotReg_runs _ _ s⟩
  | .rrc_d, s => ⟨_, rfl, rotReg_runs _ _ s⟩
  | .rrc_e, s => ⟨_, rfl, rotReg_runs _ _ s⟩
  | .rrc_h, s => ⟨_, rfl, rotReg_runs _ _ s⟩
  | .rrc_l, s => ⟨_, rfl, rotReg_runs _ _ s⟩
  | .rrc_atHL, s => ⟨_, rfl, rotHl_runs _ s⟩
  | .rrc_a, s => ⟨_, rfl, rotReg_runs _ _ s⟩
  | .rl_b, s => ⟨_, rfl, rotReg_runs _ _ s⟩
  | .rl_c, s => ⟨_, rfl, rotReg_runs _ _ s⟩
  | .rl_d, s => ⟨_, rfl, rotReg_runs _ _ s⟩
  | .rl_e, s => ⟨_, rfl, rotReg_runs _ _ s⟩
  | .rl_h, s => ⟨_, rfl, rotReg_runs _ _ s⟩
  | .rl_l, s => ⟨_, rfl, rotReg_runs _ _ s⟩
  | .rl_atHL, s => ⟨_, rfl, rotHl_runs _ s⟩
  | .rl_a, s => ⟨_, rfl, rotReg_runs _ _ s⟩
  | .rr_b, s => ⟨_, rfl, rotReg_runs _ _ s⟩
  | .rr_c, s => ⟨_, rfl, rotReg_runs _ _ s⟩
  | .rr_d, s => ⟨_, rfl, rotReg_runs _ _ s⟩
  | .rr_e, s => ⟨_, rfl, rotReg_runs _ _ s⟩
  | .rr_h, s => ⟨_, rfl, rotReg_runs _ _ s⟩
  | .rr_l, s => ⟨_, rfl, rotReg_runs _ _ s⟩
  | .rr_atHL, s => ⟨_, rfl, rotHl_runs _ s⟩
  | .rr_a, s => ⟨_, rfl, rotReg_runs _ _ s⟩
  | .sla_b, s => ⟨_, rfl, rotReg_runs _ _ s⟩
  | .sla_c, s => ⟨_, rfl, rotReg_runs _ _ s⟩
  | .sla_d, s => ⟨_, rfl, rotReg_runs _ _ s⟩
  | .sla_e, s => ⟨_, rfl, rotReg_runs _ _ s⟩
  | .sla_h, s => ⟨_, rfl, rotReg_runs _ _ s⟩
  | .sla_l, s => ⟨_, rfl, rotReg_runs _ _ s⟩
  | .sla_atHL, s => ⟨_, rfl, rotHl_runs _ s⟩
  | .sla_a, s => ⟨_, rfl, rotReg_runs _ _ s⟩
  | .sra_b, s => ⟨_, rfl, rotReg_runs _ _ s⟩
  | .sra_c, s => ⟨_, rfl, rotReg_runs _ _ s⟩
  | .sra_d, s => ⟨_, rfl, rotReg_runs _ _ s⟩
  | .sra_e, s => ⟨_, rfl, rotReg_runs _ _ s⟩
  | .sra_h, s => ⟨_, rfl, rotReg_runs _ _ s⟩
  | .sra_l, s => ⟨_, rfl, rotReg_runs _ _ s⟩
  | .sra_atHL, s => ⟨_, rfl, rotHl_runs _ s⟩
  | .sra_a, s => ⟨_, rfl, rotReg_runs _ _ s⟩
  | .swap_b, s => ⟨_, rfl, rotReg_runs _ _ s⟩
  | .swap_c, s => ⟨_, rfl, rotReg_runs _ _ s⟩
  | .swap_d, s => ⟨_, rfl, rotReg_runs _ _ s⟩
  | .swap_e, s => ⟨_, rfl, rotReg_runs _ _ s⟩
  | .swap_h, s => ⟨_, rfl, rotReg_runs _ _ s⟩
  | .swap_l, s => ⟨_, rfl, rotReg_runs _ _ s⟩
  | .swap_atHL, s => ⟨_, rfl, rotHl_runs _ s⟩
  | .swap_a, s => ⟨_, rfl, rotReg_runs _ _ s⟩
  | .srl_b, s => ⟨_, rfl, rotReg_runs _ _ s⟩
  | .srl_c, s => ⟨_, rfl, rotReg_runs _ _ s⟩
  | .srl_d, s => ⟨_, rfl, rotReg_runs _ _ s⟩
  | .srl_e, s => ⟨_, rfl, rotReg_runs _ _ s⟩
  | .srl_h, s => ⟨_, rfl, rotReg_runs _ _ s⟩
  | .srl_l, s => ⟨_, rfl, rotReg_runs _ _ s⟩
  | .srl_atHL, s => ⟨_, rfl, rotHl_runs _ s⟩
  | .srl_a, s => ⟨_, rfl, rotReg_runs _ _ s⟩
  | .bit_0_b, s => ⟨_, rfl, bitTest_runs _ _ _ s (by decide)⟩
  | .bit_0_c, s => ⟨_, rfl, bitTest_runs _ _ _ s (by decide)⟩
  | .bit_0_d, s => ⟨_, rfl, bitTest_runs _ _ _ s (by decide)⟩
  | .bit_0_e, s => ⟨_, rfl, bitTest_runs _ _ _ s (by decide)⟩
  | .bit_0_h, s => ⟨_, rfl, bitTest_runs _ _ _ s (by decide)⟩
  | .bit_0_l, s => ⟨_, rfl, bitTest_runs _ _ _ s (by decide)⟩
  | .bit_0_atHL, s => ⟨_, rfl, bitTest_runs _ _ _ s (by decide)⟩
  | .bit_0_a, s => ⟨_, rfl, bitTest_runs _ _ _ s (by decide)⟩
  | .bit_1_b, s => ⟨_, rfl, bitTest_runs _ _ _ s (by decide)⟩
  | .bit_1_c, s => ⟨_, rfl, bitTest_runs _ _ _ s (by decide)⟩
  | .bit_1_d, s => ⟨_, rfl, bitTest_runs _ _ _ s (by decide)⟩
  | .bit_1_e, s => ⟨_, rfl, bitTest_runs _ _ _ s (by decide)⟩
  | .bit_1_h, s => ⟨_, rfl, bitTest_runs _ _ _ s (by decide)⟩
  | .bit_1_l, s => ⟨_, rfl, bitTest_runs _ _ _ s (by decide)⟩
  | .bit_1_atHL, s => ⟨_, rfl, bitTest_runs _ _ _ s (by decide)⟩
  | .bit_1_a, s => ⟨_, rfl, bitTest_runs _ _ _ s (by decide)⟩
  | .bit_2_b, s => ⟨_, rfl, bitTest_runs _ _ _ s (by decide)⟩
  | .bit_2_c, s => ⟨_, rfl, bitTest_runs _ _ _ s (by decide)⟩
  | .bit_2_d, s => ⟨_, rfl, bitTest_runs _ _ _ s (by decide)⟩
  | .bit_2_e, s => ⟨_, rfl, bitTest_runs _ _ _ s (by decide)⟩
  | .bit_2_h, s => ⟨_, rfl, bitTest_runs _ _ _ s (by decide)⟩
  | .bit_2_l, s => ⟨_, rfl, bitTest_runs _ _ _ s (by decide)⟩
  | .bit_2_atHL, s => ⟨_, rfl, bitTest_runs _ _ _ s (by decide)⟩
  | .bit_2_a, s => ⟨_, rfl, bitTest_runs _ _ _ s (by decide)⟩
  | .bit_3_b, s => ⟨_, rfl, bitTest_runs _ _ _ s (by decide)⟩
  | .bit_3_c, s => ⟨_, rfl, bitTest_runs _ _ _ s (by decide)⟩
  | .bit_3_d, s => ⟨_, rfl, bitTest_runs _ _ _ s (by decide)⟩
  | .bit_3_e, s => ⟨_, rfl, bitTest_runs _ _ _ s (by decide)⟩
  | .bit_3_h, s => ⟨_, rfl, bitTest_runs _ _ _ s (by decide)⟩
  | .bit_3_l, s => ⟨_, rfl, bitTest_runs _ _ _ s (by decide)⟩
  | .bit_3_atHL, s => ⟨_, rfl, bitTest_runs _ _ _ s (by decide)⟩
  | .bit_3_a, s => ⟨_, rfl, bitTest_runs _ _ _ s (by decide)⟩
  | .bit_4_b, s => ⟨_, rfl, bitTest_runs _ _ _ s (by decide)⟩
  | .bit_4_c, s => ⟨_, rfl, bitTest_runs _ _ _ s (by decide)⟩
  | .bit_4_d, s => ⟨_, rfl, bitTest_runs _ _ _ s (by decide)⟩
  | .bit_4_e, s => ⟨_, rfl, bitTest_runs _ _ _ s (by decide)⟩
  | .bit_4_h, s => ⟨_, rfl, bitTest_runs _ _ _ s (by decide)⟩
  | .bit_4_l, s => ⟨_, rfl, bitTest_runs _ _ _ s (by decide)⟩
  | .bit_4_atHL, s => ⟨_, rfl, bitTest_runs _ _ _ s (by decide)⟩
  | .bit_4_a, s => ⟨_, rfl, bitTest_runs _ _ _ s (by decide)⟩
  | .bit_5_b, s => ⟨_, rfl, bitTest_runs _ _ _ s (by decide)⟩
  | .bit_5_c, s => ⟨_, rfl, bitTest_runs _ _ _ s (by decide)⟩
  | .bit_5_d, s => ⟨_, rfl, bitTest_runs _ _ _ s (by decide)⟩
  | .bit_5_e, s => ⟨_, rfl, bitTest_runs _ _ _ s (by decide)⟩
  | .bit_5_h, s => ⟨_, rfl, bitTest_runs _ _ _ s (by decide)⟩
  | .bit_5_l, s => ⟨_, rfl, bitTest_runs _ _ _ s (by decide)⟩
  | .bit_5_atHL, s => ⟨_, rfl, bitTest_runs _ _ _ s (by decide)⟩
  | .bit_5_a, s => ⟨_, rfl, bitTest_runs _ _ _ s (by decide)⟩
  | .bit_6_b, s => ⟨_, rfl, bitTest_runs _ _ _ s (by decide)⟩
  | .bit_6_c, s => ⟨_, rfl, bitTest_runs _ _ _ s (by decide)⟩
  | .bit_6_d, s => ⟨_, rfl, bitTest_runs _ _ _ s (by decide)⟩
  | .bit_6_e, s => ⟨_, rfl, bitTest_runs _ _ _ s (by decide)⟩
  | .bit_6_h, s => ⟨_, rfl, bitTest_runs _ _ _ s (by decide)⟩
  | .bit_6_l, s => ⟨_, rfl, bitTest_runs _ _ _ s (by decide)⟩
  | .bit_6_atHL, s => ⟨_, rfl, bitTest_runs _ _ _ s (by decide)⟩
  | .bit_6_a, s => ⟨_, rfl, bitTest_runs _ _ _ s (by decide)⟩
  | .bit_7_b, s => ⟨_, rfl, bitTest_runs _ _ _ s (by decide)⟩
  | .bit_7_c, s => ⟨_, rfl, bitTest_runs _ _ _ s (by decide)⟩
  | .bit_7_d, s => ⟨_, rfl, bitTest_runs _ _ _ s (by decide)⟩
  | .bit_7_e, s => ⟨_, rfl, bitTest_runs _ _ _ s (by decide)⟩
  | .bit_7_h, s => ⟨_, rfl, bitTest_runs _ _ _ s (by decide)⟩
  | .bit_7_l, s => ⟨_, rfl, bitTest_runs _ _ _ s (by decide)⟩
  | .bit_7_atHL, s => ⟨_, rfl, bitTest_runs _ _ _ s (by decide)⟩
  | .bit_7_a, s => ⟨_, rfl, bitTest_runs _ _ _ s (by decide)⟩
  | .res_0_b, s => ⟨_, rfl, resReg_runs _ _ s⟩
  | .res_0_c, s => ⟨_, rfl, resReg_runs _ _ s⟩
  | .res_0_d, s => ⟨_, rfl, resReg_runs _ _ s⟩
  | .res_0_e, s => ⟨_, rfl, resReg_runs _ _ s⟩
  | .res_0_h, s => ⟨_, rfl, resReg_runs _ _ s⟩
  | .res_0_l, s => ⟨_, rfl, resReg_runs _ _ s⟩
  | .res_0_atHL, s => ⟨_, rfl, resHl_runs _ s⟩
  | .res_0_a, s => ⟨_, rfl, resReg_runs _ _ s⟩
  | .res_1_b, s => ⟨_, rfl, resReg_runs _ _ s⟩
  | .res_1_c, s => ⟨_, rfl, resReg_runs _ _ s⟩
  | .res_1_d, s => ⟨_, rfl, resReg_runs _ _ s⟩
  | .res_1_e, s => ⟨_, rfl, resReg_runs _ _ s⟩
  | .res_1_h, s => ⟨_, rfl, resReg_runs _ _ s⟩
  | .res_1_l, s => ⟨_, rfl, resReg_runs _ _ s⟩
  | .res_1_atHL, s => ⟨_, rfl, resHl_runs _ s⟩
  | .res_1_a, s => ⟨_, rfl, resReg_runs _ _ s⟩
  | .res_2_b, s => ⟨_, rfl, resReg_runs _ _ s⟩
  | .res_2_c, s => ⟨_, rfl, resReg_runs _ _ s⟩
  | .res_2_d, s => ⟨_, rfl, resReg_runs _ _ s⟩
  | .res_2_e, s => ⟨_, rfl, resReg_runs _ _ s⟩
  | .res_2_h, s => ⟨_, rfl, resReg_runs _ _ s⟩
  | .res_2_l, s => ⟨_, rfl, resReg_runs _ _ s⟩
  | .res_2_atHL, s => ⟨_, rfl, resHl_runs _ s⟩
  | .res_2_a, s => ⟨_, rfl, resReg_runs _ _ s⟩
  | .res_3_b, s => ⟨_, rfl, resReg_runs _ _ s⟩
  | .res_3_c, s => ⟨_, rfl, resReg_runs _ _ s⟩
  | .res_3_d, s => ⟨_, rfl, resReg_runs _ _ s⟩
  | .res_3_e, s => ⟨_, rfl, resReg_runs _ _ s⟩
  | .res_3_h, s => ⟨_, rfl, resReg_runs _ _ s⟩
  | .res_3_l, s => ⟨_, rfl, resReg_runs _ _ s⟩
  | .res_3_atHL, s => ⟨_, rfl, resHl_runs _ s⟩
  | .res_3_a, s => ⟨_, rfl, resReg_runs _ _ s⟩
  | .res_4_b, s => ⟨_, rfl, resReg_runs _ _ s⟩
  | .res_4_c, s => ⟨_, rfl, resReg_runs _ _ s⟩
  | .res_4_d, s => ⟨_, rfl, resReg_runs _ _ s⟩
  | .res_4_e, s => ⟨_, rfl, resReg_runs _ _ s⟩
  | .res_4_h, s => ⟨_, rfl, resReg_runs _ _ s⟩
  | .res_4_l, s => ⟨_, rfl, resReg_runs _ _ s⟩
  | .res_4_atHL, s => ⟨_, rfl, resHl_runs _ s⟩
  | .res_4_a, s => ⟨_, rfl, resReg_runs _ _ s⟩
  | .res_5_b, s => ⟨_, rfl, resReg_runs _ _ s⟩
  | .res_5_c, s => ⟨_, rfl, resReg_runs _ _ s⟩
  | .res_5_d, s => ⟨_, rfl, resReg_runs _ _ s⟩
  | .res_5_e, s => ⟨_, rfl, resReg_runs _ _ s⟩
  | .res_5_h, s => ⟨_, rfl, resReg_runs _ _ s⟩
  | .res_5_l, s => ⟨_, rfl, resReg_runs _ _ s⟩
  | .res_5_atHL, s => ⟨_, rfl, resHl_runs _ s⟩
  | .res_5_a, s => ⟨_, rfl, resReg_runs _ _ s⟩
  | .res_6_b, s => ⟨_, rfl, resReg_runs _ _ s⟩
  | .res_6_c, s => ⟨_, rfl, resReg_runs _ _ s⟩
  | .res_6_d, s => ⟨_, rfl, resReg_runs _ _ s⟩
  | .res_6_e, s => ⟨_, rfl, resReg_runs _ _ s⟩
  | .res_6_h, s => ⟨_, rfl, resReg_runs _ _ s⟩
  | .res_6_l, s => ⟨_, rfl, resReg_runs _ _ s⟩
  | .res_6_atHL, s => ⟨_, rfl, resHl_runs _ s⟩
  | .res_6_a, s => ⟨_, rfl, resReg_runs _ _ s⟩
  | .res_7_b, s => ⟨_, rfl, resReg_runs _ _ s⟩
  | .res_7_c, s => ⟨_, rfl, resReg_runs _ _ s⟩
  | .res_7_d, s => ⟨_, rfl, resReg_runs _ _ s⟩
  | .res_7_e, s => ⟨_, rfl, resReg_runs _ _ s⟩
  | .res_7_h, s => ⟨_, rfl, resReg_runs _ _ s⟩
  | .res_7_l, s => ⟨_, rfl, resReg_runs _ _ s⟩
  | .res_7_atHL, s => ⟨_, rfl, resHl_runs _ s⟩
  | .res_7_a, s => ⟨_, rfl, resReg_runs _ _ s⟩
  | .set_0_b, s => ⟨_, rfl, setReg_runs _ _ s⟩
  | .set_0_c, s => ⟨_, rfl, setReg_runs _ _ s⟩
  | .set_0_d, s => ⟨_, rfl, setReg_runs _ _ s⟩
  | .set_0_e, s => ⟨_, rfl, setReg_runs _ _ s⟩
  | .set_0_h, s => ⟨_, rfl, setReg_runs _ _ s⟩
  | .set_0_l, s => ⟨_, rfl, setReg_runs _ _ s⟩
  | .set_0_atHL, s => ⟨_, rfl, setHl_runs _ s⟩
  | .set_0_a, s => ⟨_, rfl, setReg_runs _ _ s⟩
  | .set_1_b, s => ⟨_, rfl, setReg_runs _ _ s⟩
  | .set_1_c, s => ⟨_, rfl, setReg_runs _ _ s⟩
  | .set_1_d, s => ⟨_, rfl, setReg_runs _ _ s⟩
  | .set_1_e, s => ⟨_, rfl, setReg_runs _ _ s⟩
  | .set_1_h, s => ⟨_, rfl, setReg_runs _ _ s⟩
  | .set_1_l, s => ⟨_, rfl, setReg_runs _ _ s⟩
  | .set_1_atHL, s => ⟨_, rfl, setHl_runs _ s⟩
  | .set_1_a, s => ⟨_, rfl, setReg_runs _ _ s⟩
  | .set_2_b, s => ⟨_, rfl, setReg_runs _ _ s⟩
  | .set_2_c, s => ⟨_, rfl, setReg_runs _ _ s⟩
  | .set_2_d, s => ⟨_, rfl, setReg_runs _ _ s⟩
  | .set_2_e, s => ⟨_, rfl, setReg_runs _ _ s⟩
  | .set_2_h, s => ⟨_, rfl, setReg_runs _ _ s⟩
  | .set_2_l, s => ⟨_, rfl, setReg_runs _ _ s⟩
  | .set_2_atHL, s => ⟨_, rfl, setHl_runs _ s⟩
  | .set_2_a, s => ⟨_, rfl, setReg_runs _ _ s⟩
  | .set_3_b, s => ⟨_, rfl, setReg_runs _ _ s⟩
  | .set_3_c, s => ⟨_, rfl, setReg_runs _ _ s⟩
  | .set_3_d, s => ⟨_, rfl, setReg_runs _ _ s⟩
  | .set_3_e, s => ⟨_, rfl, setReg_runs _ _ s⟩
  | .set_3_h, s => ⟨_, rfl, setReg_runs _ _ s⟩
  | .set_3_l, s => ⟨_, rfl, setReg_runs _ _ s⟩
  | .set_3_atHL, s => ⟨_, rfl, setHl_runs _ s⟩
  | .set_3_a, s => ⟨_, rfl, setReg_runs _ _ s⟩
  | .set_4_b, s => ⟨_, rfl, setReg_runs _ _ s⟩
  | .set_4_c, s => ⟨_, rfl, setReg_runs _ _ s⟩
  | .set_4_d, s => ⟨_, rfl, setReg_runs _ _ s⟩
  | .set_4_e, s => ⟨_, rfl, setReg_runs _ _ s⟩
  | .set_4_h, s => ⟨_, rfl, setReg_runs _ _ s⟩
  | .set_4_l, s => ⟨_, rfl, setReg_runs _ _ s⟩
  | .set_4_atHL, s => ⟨_, rfl, setHl_runs _ s⟩
  | .set_4_a, s => ⟨_, rfl, setReg_runs _ _ s⟩
  | .set_5_b, s => ⟨_, rfl, setReg_runs _ _ s⟩
  | .set_5_c, s => ⟨_, rfl, setReg_runs _ _ s⟩
  | .set_5_d, s => ⟨_, rfl, setReg_runs _ _ s⟩
  | .set_5_e, s => ⟨_, rfl, setReg_runs _ _ s⟩
  | .set_5_h, s => ⟨_, rfl, setReg_runs _ _ s⟩
  | .set_5_l, s => ⟨_, rfl, setReg_runs _ _ s⟩
  | .set_5_atHL, s => ⟨_, rfl, setHl_runs _ s⟩
  | .set_5_a, s => ⟨_, rfl, setReg_runs _ _ s⟩
  | .set_6_b, s => ⟨_, rfl, setReg_runs _ _ s⟩
  | .set_6_c, s => ⟨_, rfl, setReg_runs _ _ s⟩
  | .set_6_d, s => ⟨_, rfl, setReg_runs _ _ s⟩
  | .set_6_e, s => ⟨_, rfl, setReg_runs _ _ s⟩
  | .set_6_h, s => ⟨_, rfl, setReg_runs _ _ s⟩
  | .set_6_l, s => ⟨_, rfl, setReg_runs _ _ s⟩
  | .set_6_atHL, s => ⟨_, rfl, setHl_runs _ s⟩
  | .set_6_a, s => ⟨_, rfl, setReg_runs _ _ s⟩
  | .set_7_b, s => ⟨_, rfl, setReg_runs _ _ s⟩
  | .set_7_c, s => ⟨_, rfl, setReg_runs _ _ s⟩
  | .set_7_d, s => ⟨_, rfl, setReg_runs _ _ s⟩
  | .set_7_e, s => ⟨_, rfl, setReg_runs _ _ s⟩
  | .set_7_h, s => ⟨_, rfl, setReg_runs _ _ s⟩
  | .set_7_l, s => ⟨_, rfl, setReg_runs _ _ s⟩
  | .set_7_atHL, s => ⟨_, rfl, setHl_runs _ s⟩
  | .set_7_a, s => ⟨_, rfl, setReg_runs _ _ s⟩

end Sys2Proof.Machine
end

