-- ==== Sys2Proof/Laws/Arrays.lean ====
section
/-! SUPPORT. Every memory operation keeps every storage array in canonical form and inside its size, and the reset
state has that form (rule R30). -/

namespace Sys2Proof.Machine

theorem ArrayOk.write {w n : Nat} {m : Memory w} (h : ArrayOk n m) (a : Nat) (v : BitVec w) (ha : a < n) :
    ArrayOk n (m.write a v) := ⟨write_wf m a v h.1, write_below m n a v ha h.2⟩

/-- The claim depends on the configuration and the arrays only. -/
theorem ArraysOk.congr {s t : State} (h : ArraysOk s) (hc : t.cfg = s.cfg) (he : t.cart.eram = s.cart.eram)
    (hv : t.ram.vram = s.ram.vram) (hw : t.ram.wram = s.ram.wram) (ha : t.ram.oam = s.ram.oam)
    (hi : t.ram.io = s.ram.io) (hb : t.lcd.bgPal = s.lcd.bgPal) (ho : t.lcd.objPal = s.lcd.objPal)
    (hf : t.lcd.fb = s.lcd.fb) (hh : t.host.frames = s.host.frames) : ArraysOk t := by
  unfold ArraysOk at *
  rw [hc, he, hv, hw, ha, hi, hb, ho, hf, hh]
  exact h

theorem vramBank_lt (s : State) : vramBank s < vramBanks s.cfg := by
  unfold vramBank vramBanks
  cases s.cfg.gen <;> simp only
  · omega
  · exact s.ram.vramBank.isLt

theorem wramBank_lt (s : State) : wramBank s < wramBanks s.cfg := by
  unfold wramBank wramBanks
  cases s.cfg.gen <;> simp only
  · omega
  · split
    · omega
    · exact s.ram.wramSel.isLt

theorem vramCell_lt (s : State) (o : Nat) (h : o < 0x2000) : vramBank s * 0x2000 + o < vramBanks s.cfg * 0x2000 := by
  have := vramBank_lt s
  omega

theorem wramCell_lt (s : State) (n : Nat) (h : n < 0xE000) (h' : 0xC000 ≤ n) :
    wramCell s n < wramBanks s.cfg * 0x1000 := by
  have := wramBank_lt s
  have h2 : 2 ≤ wramBanks s.cfg := by unfold wramBanks; split <;> omega
  unfold wramCell
  split <;> omega

theorem eramCell_lt (s : State) (n : Nat) (h : n < 0xC000) (h' : 0xA000 ≤ n) (hr : 0 < ramBanks s.cfg) :
    eramCell s n < ramBanks s.cfg * 0x2000 := by
  have : s.cart.ramBank.toNat &&& (ramBanks s.cfg - 1) ≤ ramBanks s.cfg - 1 := Nat.and_le_right
  unfold eramCell
  omega

theorem vramWrite_arrays {s : State} (h : ArraysOk s) (o : Nat) (v : Byte) (ho : o < 0x2000) :
    ArraysOk (vramWrite s o v) :=
  ⟨h.1, h.2.1, h.2.2.1.write _ v (vramCell_lt s o ho), h.2.2.2⟩

theorem copyByte_arrays {s : State} (h : ArraysOk s) (i : Nat) : ArraysOk (copyByte s i) :=
  vramWrite_arrays h _ _ (Nat.mod_lt _ (by decide))

theorem copyBlock_arrays {s : State} (h : ArraysOk s) : ArraysOk (copyBlock s) := by
  have h1 := foldl_invariant ArraysOk copyByte (fun _ i hb => copyByte_arrays hb i) (List.range 16) s h
  unfold copyBlock
  generalize (List.range 16).foldl copyByte s = u at h1 ⊢
  exact h1.congr rfl rfl rfl rfl rfl rfl rfl rfl rfl rfl

theorem copyBlocks_arrays (k : Nat) {s : State} (h : ArraysOk s) : ArraysOk (copyBlocks k s) := by
  induction k generalizing s with
  | zero => exact h
  | succ k ih => exact ih (copyBlock_arrays h)

theorem hdma5Write_arrays {s : State} (h : ArraysOk s) (w : Byte) : ArraysOk (hdma5Write s w) := by
  unfold hdma5Write
  split
  · exact h.congr rfl rfl rfl rfl rfl rfl rfl rfl rfl rfl
  · split
    · exact h.congr rfl rfl rfl rfl rfl rfl rfl rfl rfl rfl
    · exact copyBlocks_arrays _ (h.congr rfl rfl rfl rfl rfl rfl rfl rfl rfl rfl)

theorem hblankDma_arrays {s : State} (h : ArraysOk s) : ArraysOk (hblankDma s) := by
  have h1 := copyBlock_arrays h
  unfold hblankDma
  generalize copyBlock s = u at h1 ⊢
  split
  · simp only
    split
    · exact h1.congr rfl rfl rfl rfl rfl rfl rfl rfl rfl rfl
    · exact h1
  · exact h

theorem oamDmaWrite_arrays {s : State} (h : ArraysOk s) (w : Byte) : ArraysOk (oamDmaWrite s w) := by
  have step : ∀ (l : List Nat) (u : State), (∀ i ∈ l, i < 160) → ArraysOk u → ArraysOk (l.foldl (oamCopyByte w) u) := by
    intro l
    induction l with
    | nil => exact fun _ _ hu => hu
    | cons i r ih =>
      intro u hl hu
      refine ih _ (fun j hj => hl j (List.mem_cons_of_mem i hj)) ?_
      exact ⟨hu.1, hu.2.1, hu.2.2.1, hu.2.2.2.1, hu.2.2.2.2.1.write _ _ (hl i List.mem_cons_self), hu.2.2.2.2.2⟩
  exact step _ _ (fun i hi => List.mem_range.mp hi) (h.congr rfl rfl rfl rfl rfl rfl rfl rfl rfl rfl)

theorem pageWrite_arrays {s : State} (h : ArraysOk s) (i v : Byte) : ArraysOk (pageWrite s i v) := by
  obtain ⟨h1, h2, h3, h4, h5, h6, h7, h8, h9⟩ := h
  have h : ArraysOk s := ⟨h1, h2, h3, h4, h5, h6, h7, h8, h9⟩
  unfold pageWrite
  split
  case h_13 => exact oamDmaWrite_arrays h v
  case h_25 => exact hdma5Write_arrays h v
  case h_27 => exact ⟨h1, h2, h3, h4, h5, h6, h7.write _ v s.lcd.bgIdx.isLt, h8, h9⟩
  case h_29 => exact ⟨h1, h2, h3, h4, h5, h6, h7, h8.write _ v s.lcd.objIdx.isLt, h9⟩
  case h_33 => exact ⟨h1, h2, h3, h4, h5, h6.write _ v i.isLt, h7, h8, h9⟩
  case h_12 => refine h.congr ?_ ?_ ?_ ?_ ?_ ?_ ?_ ?_ ?_ ?_ <;> simp
  all_goals exact h.congr rfl rfl rfl rfl rfl rfl rfl rfl rfl rfl

theorem mapperWrite_eram (s : State) (a : Word) (w : Byte) : (mapperWrite s a w).cart.eram = s.cart.eram := by
  unfold mapperWrite mapper1Write mapper2Write mapper3Write mapper4Write ramEnableWrite setRomBank
  repeat' split
  all_goals rfl

/-- A write through the Bus keeps every array (rules R30, R73). -/
theorem memWrite_arrays {s : State} (h : ArraysOk s) (a : Word) (v : Byte) : ArraysOk (memWrite s a v) := by
  obtain ⟨h1, h2, h3, h4, h5, h6, h7, h8, h9⟩ := h
  have h : ArraysOk s := ⟨h1, h2, h3, h4, h5, h6, h7, h8, h9⟩
  have ha := a.isLt
  unfold memWrite place
  by_cases c1 : a.toNat < 0x4000
  · obtain ⟨c, hc⟩ := mapperWrite_shape s a v
    have he := mapperWrite_eram s a v
    rw [if_pos c1]
    show ArraysOk (mapperWrite s a v)
    exact h.congr (by rw [hc]) he (by rw [hc]) (by rw [hc]) (by rw [hc]) (by rw [hc]) (by rw [hc]) (by rw [hc])
      (by rw [hc]) (by rw [hc])
  rw [if_neg c1]
  by_cases c2 : a.toNat < 0x8000
  · obtain ⟨c, hc⟩ := mapperWrite_shape s a v
    have he := mapperWrite_eram s a v
    rw [if_pos c2]
    show ArraysOk (mapperWrite s a v)
    exact h.congr (by rw [hc]) he (by rw [hc]) (by rw [hc]) (by rw [hc]) (by rw [hc]) (by rw [hc]) (by rw [hc])
      (by rw [hc]) (by rw [hc])
  rw [if_neg c2]
  by_cases c3 : a.toNat < 0xA000
  · rw [if_pos c3]
    exact ⟨h1, h2, h3.write _ v (vramCell_lt s _ (by omega)), h4, h5, h6, h7, h8, h9⟩
  rw [if_neg c3]
  by_cases c4 : a.toNat < 0xC000
  · rw [if_pos c4]
    by_cases on : eramOn s = true
    · rw [if_pos on]
      have hr : 0 < ramBanks s.cfg := by
        simp only [eramOn, Bool.and_eq_true, decide_eq_true_eq] at on
        exact on.2
      exact ⟨h1, h2.write _ v (eramCell_lt s _ c4 (by omega) hr), h3, h4, h5, h6, h7, h8, h9⟩
    · rw [if_neg on]; exact h
  rw [if_neg c4]
  by_cases c5 : a.toNat < 0xE000
  · rw [if_pos c5]
    exact ⟨h1, h2, h3, h4.write _ v (wramCell_lt s _ c5 (by omega)), h5, h6, h7, h8, h9⟩
  rw [if_neg c5]
  by_cases c6 : a.toNat < 0xFE00
  · rw [if_pos c6]
    exact ⟨h1, h2, h3, h4.write _ v (wramCell_lt s _ (by omega) (by omega)), h5, h6, h7, h8, h9⟩
  rw [if_neg c6]
  by_cases c7 : a.toNat < 0xFEA0
  · rw [if_pos c7]
    exact ⟨h1, h2, h3, h4, h5.write _ v (by omega), h6, h7, h8, h9⟩
  rw [if_neg c7]
  by_cases c8 : a.toNat < 0xFF00
  · rw [if_pos c8]; exact h
  rw [if_neg c8]
  exact pageWrite_arrays h (loByte a) v

/-- What an instruction reaches has its arrays in form. -/
theorem Reach.arrays {s t : State} (h : Reach s t) (hs : ArraysOk s) : ArraysOk t :=
  h.keeps hs (fun _ _ hu _ => hu) (fun _ _ hu _ => hu) (fun _ a v hu => memWrite_arrays hu a v)

/-- Nothing is listed at reset. -/
theorem reset_arrays : ArraysOk State.reset := by decide

end Sys2Proof.Machine
end

