-- ==== Sys2Proof/Laws/Colour.lean ====
section
/-! SUPPORT. A conversion table is a conversion: reading one entry, and every function to 24-bit colours is a table. -/

namespace Sys2Proof

@[simp] theorem Colours.at_nil (v : BitVec 15) : Colours.at [] v = rgb555to888 v := rfl

@[simp] theorem Colours.at_cons (k : Nat) (x : Colour) (r : Colours) (v : BitVec 15) :
    Colours.at ((k, x) :: r) v = if k = v.toNat then x else Colours.at r v := rfl

/-- What a function gives the `n` colours from `lo` on, where that is not the default. -/
def Colours.ofFunction (f : BitVec 15 → Colour) : Nat → Nat → Colours
  | _, 0 => []
  | lo, n + 1 =>
    if f (BitVec.ofNat 15 lo) = rgb555to888 (BitVec.ofNat 15 lo) then Colours.ofFunction f (lo + 1) n
    else (lo, f (BitVec.ofNat 15 lo)) :: Colours.ofFunction f (lo + 1) n

theorem Colours.wfFrom_mono {t : Colours} {a b : Nat} (h : a ≤ b) (w : Colours.wfFrom b t = true) :
    Colours.wfFrom a t = true := by
  cases t with
  | nil => rfl
  | cons e r => simp only [Colours.wfFrom, Bool.and_eq_true, decide_eq_true_eq] at *; exact ⟨⟨⟨by omega, w.1.1.2⟩, w.1.2⟩, w.2⟩

theorem Colours.ofFunction_wf (f : BitVec 15 → Colour) (n lo : Nat) (h : lo + n ≤ 32768) :
    Colours.wfFrom lo (Colours.ofFunction f lo n) = true := by
  induction n generalizing lo with
  | zero => rfl
  | succ n ih =>
    have := ih (lo + 1) (by omega)
    unfold Colours.ofFunction
    split
    · exact Colours.wfFrom_mono (by omega) this
    · simp_all [Colours.wfFrom]; omega

theorem Colours.ofFunction_at (f : BitVec 15 → Colour) (v : BitVec 15) (n lo : Nat) :
    Colours.at (Colours.ofFunction f lo n) v =
      if lo ≤ v.toNat ∧ v.toNat < lo + n then f v else rgb555to888 v := by
  induction n generalizing lo with
  | zero => rw [if_neg (by omega)]; rfl
  | succ n ih =>
    unfold Colours.ofFunction
    have e : ∀ {k}, k = v.toNat → BitVec.ofNat 15 k = v := by rintro _ rfl; simp
    rcases Nat.lt_trichotomy lo v.toNat with h | h | h
    · split
      · rw [ih]; exact if_congr (by omega) rfl rfl
      · rw [Colours.at_cons, if_neg (by omega), ih]; exact if_congr (by omega) rfl rfl
    · rw [e h]
      split
      · rename_i d; rw [ih, if_neg (by omega), if_pos (by omega), d]
      · rw [Colours.at_cons, if_pos h, if_pos (by omega)]
    · split
      · rw [ih, if_neg (by omega), if_neg (by omega)]
      · rw [Colours.at_cons, if_neg (by omega), ih, if_neg (by omega), if_neg (by omega)]

/-- Every function from 15-bit colours to 24-bit colours is a table in canonical form. -/
theorem Colours.of_function (f : BitVec 15 → Colour) : ∃ t : Colours, t.wf = true ∧ ∀ v, t.at v = f v :=
  ⟨Colours.ofFunction f 0 32768, Colours.ofFunction_wf f _ _ (by omega), fun v => by
    rw [Colours.ofFunction_at, if_pos ⟨by omega, by have := v.isLt; omega⟩]⟩

end Sys2Proof
end

