-- ==== Sys2Proof/Laws/Ops.lean ====
section
/-! SUPPORT. The shared operations of `Machine/Ops.lean` and `CPU.step`, each with the one lemma that says what it
can do. -/

namespace Sys2Proof.Machine

/-! ### The stack -/

@[simp] theorem pushByte_regs (s : State) (v : Byte) :
    (pushByte s v).regs = { s.regs with sp := s.regs.sp - 1#16 } := by simp [pushByte]

@[simp] theorem pushByte_cfg (s : State) (v : Byte) : (pushByte s v).cfg = s.cfg := by simp [pushByte]

@[simp] theorem push16_regs (s : State) (v : Word) :
    (push16 s v).regs = { s.regs with sp := s.regs.sp - 2#16 } := by
  simp only [push16, pushByte_regs, BitVec.sub_sub]
  rfl

@[simp] theorem push16_cfg (s : State) (v : Word) : (push16 s v).cfg = s.cfg := by simp [push16]

/-! ### Interrupts -/

@[simp] theorem takeInterrupt_regs (n : Source) (s : State) :
    (takeInterrupt n s).regs = { s.regs with sp := s.regs.sp - 2#16, pc := vector n } := by
  simp only [takeInterrupt, jump_regs, push16_regs, clearIrq_regs]

@[simp] theorem takeInterrupt_cfg (n : Source) (s : State) : (takeInterrupt n s).cfg = s.cfg := by
  simp only [takeInterrupt, jump_cfg, push16_cfg, clearIrq_cfg]

theorem takeInterrupt_runs (n : Source) (s : State) : Runs (clearIrq n s) (takeInterrupt n s) :=
  ⟨((Reach.refl.push s.regs.pc).jump (vector n)).run _ (fun _ => ⟨rfl, rfl⟩), by
    show Cost 20; decide⟩

/-- What resolution can do (rule R446): nothing, wake, or take the selected source. -/
theorem checkAndDispatch_cases (s : State) :
    (pending s.irq = 0#5 ∧ checkAndDispatch s = (s, false)) ∨
    (pending s.irq ≠ 0#5 ∧ (s.run.ime = false ∨ selectSource (pending s.irq) = none) ∧
      checkAndDispatch s = ({ s with run := { s.run with halted := false } }, false)) ∨
    (∃ n, pending s.irq ≠ 0#5 ∧ s.run.ime = true ∧ selectSource (pending s.irq) = some n ∧
      checkAndDispatch s = (takeInterrupt n { s with run := { s.run with halted := false } }, true)) := by
  unfold checkAndDispatch
  by_cases hp : pending s.irq = 0#5
  · exact .inl ⟨hp, by rw [if_pos hp]⟩
  · rw [if_neg hp]
    cases hi : s.run.ime
    · exact .inr (.inl ⟨hp, .inl rfl, by simp⟩)
    · cases hs : selectSource (pending s.irq) with
      | none => exact .inr (.inl ⟨hp, .inr rfl, by simp⟩)
      | some n => exact .inr (.inr ⟨n, hp, rfl, rfl, by simp⟩)

/-! ### `CPU.step` -/

theorem eiCountdown_runs {s t : State} (h : Runs s t) : Runs s (eiCountdown t) := by
  unfold eiCountdown
  split
  · exact h
  · exact ⟨h.reach.run _ (fun _ => ⟨rfl, rfl⟩), h.cost⟩
  · exact ⟨h.reach.run _ (fun _ => ⟨rfl, rfl⟩), h.cost⟩

theorem executeNext_runs (s : State) : ∃ t, executeNext s = .next t ∧ Runs s t := by
  obtain ⟨t, ht, hr⟩ := exec_runs (fetchInstr s) (advance s (fetchInstr s))
  refine ⟨eiCountdown t, ?_, eiCountdown_runs ⟨(Reach.refl.jump _).trans hr.reach, hr.cost⟩⟩
  unfold executeNext
  rw [ht]

/-- What `CPU.step` can do (rule R451): at most one request bit is cleared, and the rest is `Runs`. -/
theorem cpuStep_runs (s : State) :
    ∃ f t, cpuStep s = .next t ∧ Runs { s with irq := { s.irq with iflag := f } } t := by
  by_cases hl : s.run.locked = true
  · exact ⟨s.irq.iflag, _, by unfold cpuStep; rw [if_pos hl], spend_runs 4 s (by decide)⟩
  have key : ∀ u : State, u.run.halted = true ∨ u.run.halted = false → Reach s u →
      ∃ t, (if u.run.halted then Host.Outcome.next (u.spend 4) else executeNext u) = .next t ∧ Runs s t := by
    intro u hu hr
    cases hu with
    | inl hu => exact ⟨_, by rw [if_pos hu], ⟨hr.spend 4, by show Cost 4; decide⟩⟩
    | inr hu =>
      obtain ⟨t, ht, hrt⟩ := executeNext_runs u
      exact ⟨t, by rw [hu, if_neg Bool.false_ne_true, ht], ⟨hr.trans hrt.reach, hrt.cost⟩⟩
  unfold cpuStep
  rw [if_neg hl]
  rcases checkAndDispatch_cases s with ⟨-, h⟩ | ⟨-, -, h⟩ | ⟨n, -, -, -, h⟩
  · obtain ⟨t, ht, hr⟩ := key s (by cases s.run.halted <;> simp) .refl
    exact ⟨s.irq.iflag, t, by rw [h]; exact ht, hr⟩
  · obtain ⟨t, ht, hr⟩ := key { s with run := { s.run with halted := false } } (.inr rfl)
      (Reach.refl.run _ (fun _ => ⟨rfl, rfl⟩))
    exact ⟨s.irq.iflag, t, by rw [h]; exact ht, hr⟩
  · have hr := takeInterrupt_runs n { s with run := { s.run with halted := false } }
    refine ⟨s.irq.iflag &&& ~~~ (1#5 <<< n.bitIndex), _, by rw [h], ⟨?_, hr.cost⟩⟩
    exact (Reach.refl.run (s := clearIrq n s) { s.run with halted := false } (fun _ => ⟨rfl, rfl⟩)).trans hr.reach

/-- One iteration is `CPU.step`, then the other agents (rule R8). -/
theorem step_next {s t : State} (h : cpuStep s = .next t) : step s = .next (devices t) := by
  simp only [step, iteration, h]

end Sys2Proof.Machine
end

