-- ==== Sys2Proof/Laws/Ppu.lean ====
section
/-! SUPPORT. What the pixel processor's procedures can change, said once: `Shown`. -/

namespace Sys2Proof.Machine

/-- The parts of the state no device procedure touches: the configuration, the CPU, the cartridge, the enables, every
array but video RAM and the frame buffer, every register but `LY` (rule R350). -/
structure Shown (s t : State) : Prop where
  cfg : t.cfg = s.cfg
  regs : t.regs = s.regs
  run : t.run = s.run
  cart : t.cart = s.cart
  irq : t.irq = { s.irq with iflag := t.irq.iflag, coincidence := t.irq.coincidence }
  lcd : t.lcd = { s.lcd with
    ly := t.lcd.ly, mode := t.lcd.mode, counter := t.lcd.counter, wlc := t.lcd.wlc, fb := t.lcd.fb }
  ram : t.ram = { s.ram with vram := t.ram.vram }
  port : t.dma.port = s.dma.port
  tim : t.tim = s.tim
  pad : t.pad = s.pad
  masks : t.host.masks = s.host.masks

theorem Shown.refl (s : State) : Shown s s := by constructor <;> rfl

theorem Shown.trans {s t u : State} (h : Shown s t) (k : Shown t u) : Shown s u where
  cfg := k.cfg.trans h.cfg
  regs := k.regs.trans h.regs
  run := k.run.trans h.run
  cart := k.cart.trans h.cart
  irq := by rw [k.irq, h.irq]
  lcd := by rw [k.lcd, h.lcd]
  ram := by rw [k.ram, h.ram]
  port := k.port.trans h.port
  tim := k.tim.trans h.tim
  pad := k.pad.trans h.pad
  masks := k.masks.trans h.masks

theorem shown_coincidenceUpdate (s : State) : Shown s (coincidenceUpdate s) := by
  unfold coincidenceUpdate raiseIf
  simp only
  split <;> constructor <;> rfl

theorem shown_enterMode (m : PpuMode) (s : State) : Shown s (enterMode m s) := by
  unfold enterMode raiseIf
  simp only
  split <;> split <;> constructor <;> rfl

theorem shown_hblankDma (s : State) : Shown s (hblankDma s) := by
  unfold hblankDma
  obtain ⟨v, hv⟩ := copyBlock_shape s
  rw [hv]
  simp only
  split
  · split <;> constructor <;> rfl
  · exact Shown.refl s

theorem shown_renderLine (s : State) : Shown s (renderLine s) := by
  unfold renderLine
  split <;> constructor <;> rfl

theorem shown_freeze (s : State) : Shown s (freeze s) :=
  Shown.trans (t := { s with lcd := { s.lcd with ly := 0#8, wlc := 0#8, mode := .search, counter := 80 } })
    (by constructor <;> rfl) (shown_coincidenceUpdate _)

theorem shown_addCounter (k : Int) (s : State) : Shown s (addCounter k s) := by constructor <;> rfl

theorem shown_setLy (v : Byte) (s : State) : Shown s (setLy v s) := by constructor <;> rfl

theorem shown_leaveDrawing (s : State) : Shown s (leaveDrawing s) :=
  ((shown_renderLine s).trans (shown_enterMode _ _)).trans (shown_hblankDma _)

theorem shown_leaveHblank (s : State) : Shown s (leaveHblank s) := by
  have h := (shown_setLy (s.lcd.ly + 1#8) s).trans (shown_coincidenceUpdate _)
  unfold leaveHblank
  simp only
  split
  · exact h.trans (shown_enterMode _ _)
  · exact h.trans (shown_enterMode _ _)

theorem shown_leaveVblankLine (s : State) : Shown s (leaveVblankLine s) := by
  unfold leaveVblankLine
  split
  · refine Shown.trans (t := { presentFrame s with lcd := { s.lcd with ly := 0#8, wlc := 0#8 } })
      (by constructor <;> rfl) ?_
    exact (shown_coincidenceUpdate _).trans (shown_enterMode _ _)
  · exact ((shown_setLy _ s).trans (shown_coincidenceUpdate _)).trans (shown_addCounter _ _)

/-- One transition (rule R354). -/
theorem shown_ppuAdvance (s : State) : Shown s (ppuAdvance s) := by
  unfold ppuAdvance
  split
  · exact shown_enterMode _ _
  · exact shown_leaveDrawing s
  · exact shown_leaveHblank s
  · exact shown_leaveVblankLine s

theorem shown_ppuLoop (fuel : Nat) (s : State) : Shown s (ppuLoop fuel s) := by
  induction fuel generalizing s with
  | zero => exact Shown.refl s
  | succ n ih =>
    unfold ppuLoop
    split
    · exact (shown_ppuAdvance s).trans (ih _)
    · exact Shown.refl s

/-- `PPU.step(n)` (rules R350, R352). -/
theorem shown_ppuStep (n : Nat) (s : State) : Shown s (ppuStep n s) := by
  unfold ppuStep
  split
  · exact (shown_addCounter _ s).trans (shown_ppuLoop _ _)
  · exact shown_freeze s

/-- What the Timer changes: its divider, its accumulator, its counter, and `IF` (rules R465, R466). -/
theorem timerTicks_shape (k : Nat) (s : State) :
    ∃ f c, timerTicks k s = { s with irq := { s.irq with iflag := f }, tim := { s.tim with tima := c } } := by
  induction k generalizing s with
  | zero => exact ⟨_, _, rfl⟩
  | succ k ih =>
    obtain ⟨f, c, h⟩ := ih (timerTick s)
    refine ⟨f, c, ?_⟩
    rw [timerTicks, h]
    unfold timerTick
    split <;> rfl

theorem timerStep_shape (n : Nat) (s : State) :
    ∃ f a c, timerStep n s = { s with
      irq := { s.irq with iflag := f }
      tim := { s.tim with divCounter := s.tim.divCounter + BitVec.ofNat 16 n, timaAcc := a, tima := c } } := by
  unfold timerStep
  split
  · obtain ⟨f, c, h⟩ := timerTicks_shape ((s.tim.timaAcc + n) / timerPeriod s.tim.tac)
      { s with tim := { s.tim with
          divCounter := s.tim.divCounter + BitVec.ofNat 16 n
          timaAcc := (s.tim.timaAcc + n) % timerPeriod s.tim.tac } }
    exact ⟨f, _, c, h⟩
  · exact ⟨_, _, _, rfl⟩

/-- What the Host changes (rule R470). -/
theorem hostTurn_shape (s : State) :
    ∃ f m r, hostTurn s = { s with
      irq := { s.irq with iflag := f }, pad := { s.pad with inputMask := m }, host := { s.host with masks := r } } := by
  unfold hostTurn hostInput
  split
  · exact ⟨_, _, _, rfl⟩
  · exact ⟨_, _, _, rfl⟩
  · split
    · exact ⟨_, _, _, rfl⟩
    · exact ⟨_, _, _, rfl⟩

end Sys2Proof.Machine
end

