-- ==== Sys2Proof/Tests/Slice0.lean ====
section
/-! SUPPORT. The model's own tests: what is well formed and what is refused, one word of every family written out from
its encoding, examples the spec's rules give, and for every statement with hypotheses a state and operands that meet
them. Expected values come from the spec's text, named in each group. -/

namespace Sys2Proof.Machine

/-! ### Helpers -/

/-- A look at the next state of an outcome. -/
def probe {α : Type} (o : Host.Outcome State Fault Refusal) (f : State → α) : Option α :=
  match o with
  | .next t => some (f t)
  | .fault _ => none
  | .refused _ => none

/-- Registers all 0 but `PC` = 0xC000 and `SP` = 0xFFFE. -/
def plainRegs : Regs :=
  { a := 0x00#8, f := 0x00#8, b := 0x00#8, c := 0x00#8, d := 0x00#8, e := 0x00#8, h := 0x00#8, l := 0x00#8
    sp := 0xFFFE#16, pc := 0xC000#16 }

/-- Reset of generation 1 with registers `g` and bytes from 0xC000 on. -/
def stage (g : Regs) (bytes : List Byte) : State :=
  { State.reset with
    regs := g
    ram := { State.reset.ram with wram := imageCells 0 bytes } }

/-- Reset of generation 2. -/
def gen2 : State := State.boot { Config.scenario with gen := .two } (Boot.standard .two)

/-- Reset with a mapper. -/
def mapped (m : Mapper) : State := State.boot { Config.scenario with mapper := m } (Boot.standard .one)

/-- Generation 2 with a block transfer armed for `n` blocks. -/
def armed (n : Byte) : State := { gen2 with dma := { gen2.dma with active := true, rem := n } }

/-- Reset with `IME` set, every source enabled, and the requests `q` pending. -/
def requested (q : BitVec 5) : State :=
  { State.reset with
    run := { State.reset.run with ime := true }
    irq := { State.reset.irq with ie := 0xFF#8, iflag := q } }

/-- Reset with the pixel processor in a mode on a line, its counter run out. -/
def modeAt (m : PpuMode) (line : Byte) : State :=
  { State.reset with lcd := { State.reset.lcd with mode := m, ly := line, counter := 0 } }

/-! ### What is refused as ill formed (rules R6, R21, R151, R152, R493) -/

theorem test_wf_refuses_the_prefix_row : Instr.cb_page.wf = false := by decide
theorem test_wf_accepts_an_instruction : (Instr.ld_a_d8 0xFF#8).wf = true := by decide
theorem test_config_refuses_gen_0_and_3 : genOf 0 = none ∧ genOf 3 = none ∧ genOf 2 = some .two := by decide
theorem test_config_refuses_mapper_0_and_5 : mapperOf 0 = none ∧ mapperOf 5 = none := by decide
theorem test_config_refuses_rom_bank_counts :
    romCodeOf 1 = none ∧ romCodeOf 3 = none ∧ romCodeOf 1024 = none ∧ romCodeOf 512 = some 8 := by decide
theorem test_config_refuses_ram_bank_counts :
    ramBanksOf 2 = none ∧ ramBanksOf 32 = none ∧ ramBanksOf 16 = some .sixteen := by decide
theorem test_config_refuses_a_short_image :
    Config.ofNumbers 1 1 2 0 [0x00#8] 0xFF#8 .lock .standard .standard = none := by decide
theorem test_config_wf_refuses_a_listed_zero : { Config.scenario with rom := [(0, 0x00#8)] }.wf = false := by decide
theorem test_config_wf_refuses_a_byte_past_the_image :
    { Config.scenario with rom := [(0x20000, 0x01#8)] }.wf = false ∧
      { Config.scenario with rom := [(0x1FFFF, 0x01#8)] }.wf = true := by decide
theorem test_config_wf_refuses_a_listed_default_colour :
    { Config.scenario with colours := [(0x7FFF, 0xFFFFFF#24)] }.wf = false ∧
      { Config.scenario with colours := [(0x7FFF, 0xFFFFFE#24)] }.wf = true := by decide
theorem test_config_wf_refuses_a_colour_of_sixteen_bits :
    { Config.scenario with colours := [(0x8000, 0x123456#24)] }.wf = false := by decide
theorem test_config_wf_refuses_colours_out_of_order :
    { Config.scenario with colours := [(2, 0x123456#24), (1, 0x123456#24)] }.wf = false := by decide
theorem test_boot_wf_refuses_a_low_flag_bit :
    let b := Boot.standard .one
    { b with regs := { b.regs with f := 0x01#8 } }.wf = false := by decide
theorem test_boot_wf_refuses_129_blocks :
    let b := Boot.standard .two
    { b with dma := { b.dma with rem := 129#8 } }.wf = false ∧
      { b with dma := { b.dma with rem := 128#8 } }.wf = true := by decide
theorem test_boot_wf_refuses_a_full_accumulator :
    let b := Boot.standard .one
    { b with tim := { b.tim with timaAcc := 1024 } }.wf = false := by decide
theorem test_boot_wf_refuses_cells_out_of_order :
    let b := Boot.standard .one
    { b with ram := { b.ram with vram := [(2, 0x01#8), (1, 0x01#8)] } }.wf = false := by decide
theorem test_boot_wf_accepts_the_defaults : (Boot.standard .one).wf = true ∧ (Boot.standard .two).wf = true := by decide

/-! ### One word of every family, bit by bit from its encoding -/

theorem test_decode_ld_r_r : decodeBytes 0b01111000#8 0#8 0#8 = .ld_a_b := by decide
theorem test_decode_ld_r_d8 : decodeBytes 0b00111110#8 0x7F#8 0#8 = .ld_a_d8 0x7F#8 := by decide
theorem test_decode_ld_r_atHL : decodeBytes 0b01111110#8 0#8 0#8 = .ld_a_atHL := by decide
theorem test_decode_ld_atHL_r : decodeBytes 0b01110111#8 0#8 0#8 = .ld_atHL_a := by decide
theorem test_decode_halt_is_no_load : decodeBytes 0b01110110#8 0#8 0#8 = .halt := by decide
theorem test_decode_ld_rp_d16 : decodeBytes 0b00110001#8 0xFE#8 0xFF#8 = .ld_sp_d16 0xFFFE#16 := by decide
theorem test_decode_push : decodeBytes 0b11110101#8 0#8 0#8 = .push_af := by decide
theorem test_decode_pop : decodeBytes 0b11000001#8 0#8 0#8 = .pop_bc := by decide
theorem test_decode_alu_r : decodeBytes 0b10111010#8 0#8 0#8 = .cp_a_d := by decide
theorem test_decode_alu_atHL : decodeBytes 0b10011110#8 0#8 0#8 = .sbc_a_atHL := by decide
theorem test_decode_alu_d8 : decodeBytes 0b11000110#8 0xFF#8 0#8 = .add_a_d8 0xFF#8 := by decide
theorem test_decode_inc_r : decodeBytes 0b00100100#8 0#8 0#8 = .inc_h := by decide
theorem test_decode_dec_atHL : decodeBytes 0b00110101#8 0#8 0#8 = .dec_atHL := by decide
theorem test_decode_add_hl : decodeBytes 0b00101001#8 0#8 0#8 = .add_hl_hl := by decide
theorem test_decode_inc_rp : decodeBytes 0b00110011#8 0#8 0#8 = .inc_sp := by decide
theorem test_decode_dec_rp : decodeBytes 0b00001011#8 0#8 0#8 = .dec_bc := by decide
theorem test_decode_rot_r : decodeBytes 0xCB#8 0b00110111#8 0#8 = .swap_a := by decide
theorem test_decode_rot_atHL : decodeBytes 0xCB#8 0b00010110#8 0#8 = .rl_atHL := by decide
theorem test_decode_bit : decodeBytes 0xCB#8 0b01111000#8 0#8 = .bit_7_b := by decide
theorem test_decode_res : decodeBytes 0xCB#8 0b10111000#8 0#8 = .res_7_b := by decide
theorem test_decode_set : decodeBytes 0xCB#8 0b11001011#8 0#8 = .set_1_e := by decide
theorem test_decode_jp_cc : decodeBytes 0b11001010#8 0x00#8 0xC2#8 = .jp_z_a16 0xC200#16 := by decide
theorem test_decode_jr_cc : decodeBytes 0b00111000#8 0xFB#8 0#8 = .jr_c_e8 0xFB#8 := by decide
theorem test_decode_call_cc : decodeBytes 0b11010100#8 0x00#8 0xC1#8 = .call_nc_a16 0xC100#16 := by decide
theorem test_decode_ret_cc : decodeBytes 0b11000000#8 0#8 0#8 = .ret_nz := by decide
theorem test_decode_rst : decodeBytes 0b11101111#8 0#8 0#8 = .rst_28h := by decide
theorem test_decode_stop_keeps_its_byte : decodeBytes 0b00010000#8 0x5A#8 0#8 = .stop 0x5A#8 := by decide
theorem test_decode_unassigned : decodeBytes 0xDD#8 0#8 0#8 = .illegal_dd := by decide
theorem test_decode_refuses_a_missing_byte : decode [0x3E#8] = .error (.truncated 0x3E#8) := by rfl
theorem test_decode_table_word : decodeTableWord 24 0xFFFE31 = some (.ld_sp_d16 0xFFFE#16) := by decide
theorem test_decode_table_word_operands_zero : decodeTableWord 8 0x31 = some (.ld_sp_d16 0x0000#16) := by decide

/-! ### Examples of the rules, one CPU step each -/

theorem test_add_sets_z_h_c : probe (cpuStep (stage { plainRegs with a := 0x01#8 } [0xC6#8, 0xFF#8]))
    (fun t => (t.regs.a, t.regs.f, t.regs.pc, t.run.cycles)) = some (0x00#8, 0xB0#8, 0xC002#16, 8) := by decide
theorem test_adc_carry_in : probe (cpuStep (stage { plainRegs with a := 0x0F#8, f := 0x10#8 } [0xCE#8]))
    (fun t => (t.regs.a, t.regs.f)) = some (0x10#8, 0x20#8) := by decide
theorem test_sbc_wraps : probe (cpuStep (stage { plainRegs with f := 0x10#8 } [0xDE#8, 0xFF#8]))
    (fun t => (t.regs.a, t.regs.f)) = some (0x00#8, 0xF0#8) := by decide
theorem test_cp_keeps_a : probe (cpuStep (stage { plainRegs with a := 0x3C#8 } [0xFE#8, 0x40#8]))
    (fun t => (t.regs.a, t.regs.f)) = some (0x3C#8, 0x50#8) := by decide
theorem test_inc_keeps_carry : probe (cpuStep (stage { plainRegs with b := 0x0F#8, f := 0x10#8 } [0x04#8]))
    (fun t => (t.regs.b, t.regs.f)) = some (0x10#8, 0x30#8) := by decide
theorem test_daa_looks_at_the_old_a : probe (cpuStep (stage { plainRegs with a := 0x94#8, f := 0x20#8 } [0x27#8]))
    (fun t => (t.regs.a, t.regs.f)) = some (0x9A#8, 0x00#8) := by decide
theorem test_daa_subtract : probe (cpuStep (stage { plainRegs with f := 0x70#8 } [0x27#8]))
    (fun t => (t.regs.a, t.regs.f)) = some (0x9A#8, 0x50#8) := by decide
theorem test_add_hl_keeps_zero :
    probe (cpuStep (stage { plainRegs with h := 0x0F#8, l := 0xFF#8, c := 0x01#8, f := 0x80#8 } [0x09#8]))
      (fun t => (t.regs.hl, t.regs.f)) = some (0x1000#16, 0xA0#8) := by decide
theorem test_add_sp_negative : probe (cpuStep (stage { plainRegs with sp := 0xFFF8#16 } [0xE8#8, 0xFE#8]))
    (fun t => (t.regs.sp, t.regs.f, t.run.cycles)) = some (0xFFF6#16, 0x30#8, 16) := by decide
theorem test_ld_hl_sp_minus_one : probe (cpuStep (stage { plainRegs with sp := 0x0000#16 } [0xF8#8, 0xFF#8]))
    (fun t => (t.regs.hl, t.regs.f, t.regs.sp)) = some (0xFFFF#16, 0x00#8, 0x0000#16) := by decide
theorem test_rla_clears_zero : probe (cpuStep (stage { plainRegs with a := 0x80#8 } [0x17#8]))
    (fun t => (t.regs.a, t.regs.f)) = some (0x00#8, 0x10#8) := by decide
theorem test_rl_atHL : probe (cpuStep (stage { plainRegs with h := 0xC0#8, l := 0x02#8, f := 0x10#8 }
    [0xCB#8, 0x16#8, 0x80#8])) (fun t => (memRead t 0xC002#16, t.regs.f, t.run.cycles)) =
      some (0x01#8, 0x10#8, 16) := by decide
theorem test_sra_keeps_the_sign : probe (cpuStep (stage { plainRegs with b := 0x81#8 } [0xCB#8, 0x28#8]))
    (fun t => (t.regs.b, t.regs.f)) = some (0xC0#8, 0x10#8) := by decide
theorem test_bit_keeps_carry : probe (cpuStep (stage { plainRegs with b := 0x80#8, f := 0x10#8 } [0xCB#8, 0x78#8]))
    (fun t => (t.regs.b, t.regs.f)) = some (0x80#8, 0x30#8) := by decide
theorem test_push_bc : probe (cpuStep (stage { plainRegs with b := 0x12#8, c := 0x34#8 } [0xC5#8]))
    (fun t => (memRead t 0xFFFD#16, memRead t 0xFFFC#16, t.regs.sp)) = some (0x12#8, 0x34#8, 0xFFFC#16) := by decide
theorem test_pop_af_masks : probe (cpuStep (stage { plainRegs with sp := 0xC001#16 } [0xF1#8, 0xFF#8, 0x12#8]))
    (fun t => (t.regs.a, t.regs.f, t.regs.sp)) = some (0x12#8, 0xF0#8, 0xC003#16) := by decide
theorem test_ld_a16_sp : probe (cpuStep (stage { plainRegs with sp := 0xFFF8#16 } [0x08#8, 0x00#8, 0xC1#8]))
    (fun t => (memRead t 0xC100#16, memRead t 0xC101#16, t.run.cycles)) = some (0xF8#8, 0xFF#8, 20) := by decide
theorem test_jr_backwards : probe (cpuStep (stage { plainRegs with pc := 0xC005#16 }
    [0x00#8, 0x00#8, 0x00#8, 0x00#8, 0x00#8, 0x20#8, 0xFB#8])) (fun t => (t.regs.pc, t.run.cycles)) =
      some (0xC002#16, 12) := by decide
theorem test_call_pushes_the_next_address : probe (cpuStep (stage plainRegs [0xCD#8, 0x00#8, 0xC1#8]))
    (fun t => (memRead t 0xFFFD#16, memRead t 0xFFFC#16, t.regs.pc)) = some (0xC0#8, 0x03#8, 0xC100#16) := by decide
theorem test_ret_nz_not_taken : probe (cpuStep (stage { plainRegs with f := 0x80#8 } [0xC0#8]))
    (fun t => (t.regs.pc, t.regs.sp, t.run.cycles)) = some (0xC001#16, 0xFFFE#16, 8) := by decide
theorem test_rst_28 : probe (cpuStep (stage plainRegs [0xEF#8]))
    (fun t => (t.regs.pc, memRead t 0xFFFD#16, memRead t 0xFFFC#16)) = some (0x0028#16, 0xC0#8, 0x01#8) := by decide
theorem test_unassigned_locks : probe (cpuStep (stage plainRegs [0xDD#8]))
    (fun t => (t.run.locked, t.regs.pc, t.run.cycles)) = some (true, 0xC001#16, 4) := by decide
theorem test_stop_halts_on_generation_1 : probe (cpuStep (stage plainRegs [0x10#8]))
    (fun t => (t.run.halted, t.run.ds, t.regs.pc)) = some (true, false, 0xC002#16) := by decide
theorem test_stop_switches_the_speed :
    probe (exec (.stop 0x00#8) { gen2 with run := { gen2.run with speedArmed := true } })
      (fun t => (t.run.halted, t.run.ds, t.run.speedArmed)) = some (false, true, false) := by decide
theorem test_ei_waits_one_instruction : probe (cpuStep (stage plainRegs [0xFB#8]))
    (fun t => (t.run.ime, t.run.eiDelay)) = some (false, .one) := by decide
theorem test_interrupt_entry : probe (cpuStep (requested 0b00101#5))
    (fun t => (t.regs.pc, t.irq.iflag, memRead t 0xFFFD#16, t.run.ime, t.run.cycles)) =
      some (0x0040#16, 0b00100#5, 0x01#8, false, 20) := by decide
theorem test_mapper_1_bank_5 : (memWrite State.reset 0x2000#16 0x05#8).cart.romBank = 5#9 := by decide
theorem test_mapper_1_bank_0_is_1 : (memWrite State.reset 0x2000#16 0x00#8).cart.romBank = 1#9 := by decide
theorem test_reset_reads : memRead State.reset 0xFF41#16 = 0x86#8 ∧ memRead State.reset 0xFF0F#16 = 0xE1#8 ∧
    memRead State.reset 0xFF00#16 = 0xFF#8 ∧ memRead State.reset 0xFF04#16 = 0xAB#8 := by decide
theorem test_placed_word_is_fetched :
    fetchInstr (State.reset.withFetchWord 24 0xC123FA) = .ld_a_atA16 0xC123#16 := by decide
theorem test_placed_word_runs : probe (step (State.reset.withFetchWord 16 0xFFC6))
    (fun t => (t.regs.a, t.regs.f)) = some (0x00#8, 0xB0#8) := by decide

/-! ### A state and operands for the hypotheses of every statement -/

theorem test_meets_DecodeOfEncode : Instr.nop.wf = true ∧ (Instr.illegal_fd).wf = true := by decide
theorem test_meets_EncodeOfDecode : decode [0x00#8, 0xCB#8] = .ok (.nop, [0xCB#8]) := by rfl
theorem test_meets_Length : (1 ≤ ([] : List Byte).length + 1) ∧ ([0x00#8].length + 1 < 3) ∧
    decode [0xC3#8, 0x00#8] = .error (.truncated 0xC3#8) := ⟨by decide, by decide, by rfl⟩
theorem test_meets_PopAfterPush : isStorage State.reset (State.reset.regs.sp - 1#16) = true ∧
    isStorage State.reset (State.reset.regs.sp - 2#16) = true ∧ isStorage State.reset 0xDFFF#16 = true ∧
    isStorage State.reset 0xFF80#16 = true ∧ isStorage State.reset 0xFFFF#16 = false := by decide
theorem test_meets_AluForm (s : State) : AluForm .add s (.add_a_d8 0xFF#8) [0xC6#8, 0xFF#8] 0xFF#8 8 ∧
    AluForm .sbc s .sbc_a_a [0x9F#8] s.regs.a 4 ∧ AluForm .cp s .cp_a_atHL [0xBE#8] (memRead s s.regs.hl) 8 :=
  ⟨.imm _, .reg .a, .mem⟩
theorem test_meets_AluForm_each (s : State) : AluForm .adc s .adc_a_b [0x88#8] s.regs.b 4 ∧
    AluForm .sub s .sub_a_c [0x91#8] s.regs.c 4 ∧ AluForm .and s .and_a_d [0xA2#8] s.regs.d 4 ∧
    AluForm .xor s .xor_a_e [0xAB#8] s.regs.e 4 ∧ AluForm .or s .or_a_h [0xB4#8] s.regs.h 4 :=
  ⟨.reg .b, .reg .c, .reg .d, .reg .e, .reg .h⟩
theorem test_meets_DaaAdjusts :
    let s := stage { plainRegs with a := 0x99#8, b := 0x99#8 } []
    99 < 100 ∧ s.regs.a = BitVec.ofNat 8 (16 * (99 / 10) + 99 % 10) ∧
      s.regs.b = BitVec.ofNat 8 (16 * (99 / 10) + 99 % 10) := by decide
theorem test_meets_conditions : condHolds .nz 0x00#8 ∧ condHolds .z 0x80#8 ∧ condHolds .nc 0x80#8 ∧ condHolds .c 0x10#8 ∧
    ¬ condHolds .nz 0x80#8 ∧ ¬ condHolds .z 0x00#8 ∧ ¬ condHolds .nc 0x10#8 ∧ ¬ condHolds .c 0x00#8 := by
  unfold condHolds; decide
theorem test_meets_StoresNothing : StoresNothing State.reset .nop ∧
    probe (exec .nop State.reset) (fun t => t.run.cycles) = some 4 ∧
    probe (exec (.stop 0x00#8) State.reset) (fun t => t.run.halted) = some true := ⟨.nop, by decide, by decide⟩
theorem test_meets_StoresByte : StoresByte (stage { plainRegs with h := 0xC0#8, a := 0x99#8 } []) .ld_atHL_a 0xC000#16
    0x99#8 ∧ isStorage (stage plainRegs []) 0xC000#16 = true := ⟨.ldMR .a, by decide⟩
theorem test_meets_StoresWord : StoresWord State.reset .push_bc 0xFFFC#16 0x0013#16 ∧
    isStorage State.reset 0xFFFC#16 = true ∧ isStorage State.reset 0xFFFD#16 = true :=
  ⟨.push .bc, by decide, by decide⟩
theorem test_meets_StepRuns : State.reset.run.locked = false ∧ State.reset.run.halted = false ∧ noDispatch State.reset ∧
    decode [memRead State.reset 0x0100#16, memRead State.reset 0x0101#16, memRead State.reset 0x0102#16] =
      .ok (.nop, [0x00#8, 0x00#8]) := ⟨by decide, by decide, .inl (by decide), by rfl⟩
theorem test_meets_InterruptEntry : taken (requested 0b11111#5) .vblank ∧ taken (requested 0b11110#5) .status ∧
    taken (requested 0b11100#5) .timer ∧ taken (requested 0b11000#5) .input ∧
    (∀ q, (requested q).run.locked = false ∧ (requested q).run.ime = true) := by
  refine ⟨?_, ?_, ?_, ?_, fun _ => ⟨rfl, rfl⟩⟩ <;> simp only [taken, wanted] <;> decide
theorem test_meets_Locked : ({ State.reset with run := { State.reset.run with locked := true } } : State).run.locked =
    true := by decide
theorem test_meets_Halted :
    let s := fun q : BitVec 5 => ({ requested q with run := { (requested q).run with halted := true } } : State)
    (s 0#5).run.locked = false ∧ (s 0#5).run.halted = true ∧ (∀ n, ¬ wanted (s 0#5) n) ∧
      wanted (s 0b01000#5) .serial ∧ noDispatch (s 0b01000#5) ∧ (s 0b10000#5).run.ime = true ∧
      taken (s 0b10000#5) .input := by
  refine ⟨rfl, rfl, fun n => by cases n <;> simp only [wanted] <;> decide, ?_, .inr ?_, rfl, ?_⟩ <;>
    simp only [taken, wanted] <;> decide
theorem test_meets_Ei :
    let s := stage plainRegs [0xFB#8]
    s.run.locked = false ∧ s.run.halted = false ∧ noDispatch s ∧ memRead s s.regs.pc = 0xFB#8 ∧
      probe (cpuStep s) (fun t => t.run.eiDelay) = some .one :=
  ⟨by decide, by decide, .inl (by decide), by decide, by decide⟩
theorem test_meets_AccessesByRegion :
    let s : State := { State.reset with cart := { State.reset.cart with ramEnable := true } }
    State.reset.cart.ramEnable = false ∧ s.cart.ramEnable = true ∧ 0 < ramBanks s.cfg ∧
      memRead State.reset 0xA000#16 = 0xFF#8 ∧ memRead (memWrite s 0xA000#16 0x5A#8) 0xA000#16 = 0x5A#8 ∧
      memRead (memWrite s 0xBFFF#16 0x5A#8) 0xBFFF#16 = 0x5A#8 := by decide
theorem test_meets_regions : place State.reset 0x3FFF#16 = .rom 0x3FFF ∧ place State.reset 0x4000#16 = .rom 0x4000 ∧
    place State.reset 0x8000#16 = .vram 0 ∧ place State.reset 0xBFFF#16 = .nowhere ∧
    place State.reset 0xCFFF#16 = .wram 0xFFF ∧ place State.reset 0xD000#16 = .wram 0x1000 := by decide
theorem test_meets_upper_regions :
    place State.reset 0xE000#16 = .wram 0 ∧ place State.reset 0xFDFF#16 = .wram 0x1DFF :=
  ⟨by decide +kernel, by decide +kernel⟩
theorem test_meets_top_regions :
    place State.reset 0xFE9F#16 = .oam 0x9F ∧ place State.reset 0xFEA0#16 = .nowhere ∧
    place State.reset 0xFF00#16 = .page 0x00#8 := by decide
theorem test_meets_MapperWriteRules_1 :
    let s := mapped .variant1
    s.cfg.mapper = .variant1 ∧ (memWrite s 0x1FFF#16 0x0A#8).cart.ramEnable = true ∧
      (memWrite s 0x3FFF#16 0x1F#8).cart.romBank = 7#9 ∧ s.cart.bankMode = false ∧
      (memWrite s 0x5FFF#16 0x03#8).cart.romBank = 1#9 ∧ (memWrite s 0x6000#16 0x01#8).cart.bankMode = true ∧
      (memWrite (memWrite s 0x7FFF#16 0x01#8) 0x4000#16 0xFF#8).cart.ramBank = 3#4 := by decide
theorem test_meets_MapperWriteRules_2 :
    let s := mapped .variant2
    s.cfg.mapper = .variant2 ∧ (0x1EFF#16).getLsbD 8 = false ∧ (memWrite s 0x1EFF#16 0x0A#8).cart.ramEnable = true ∧
      (0x1FFF#16).getLsbD 8 = true ∧ (memWrite s 0x1FFF#16 0x03#8).cart.romBank = 3#9 ∧
      (memWrite s 0x2000#16 0x03#8).cart.romBank = 1#9 ∧ (memWrite s 0x4100#16 0x03#8).cart.romBank = 1#9 := by decide
theorem test_meets_MapperWriteRules_3 :
    let s := mapped .variant3
    s.cfg.mapper = .variant3 ∧ (memWrite s 0x1FFF#16 0x0A#8).cart.ramEnable = true ∧
      (memWrite s 0x2000#16 0x86#8).cart.romBank = 6#9 ∧ (memWrite s 0x4000#16 0xFC#8).cart.ramBank = 12#4 ∧
      (memWrite s 0x6000#16 0x01#8).cart = s.cart := by decide
theorem test_meets_MapperWriteRules_4 :
    let s := mapped .variant4
    s.cfg.mapper = .variant4 ∧ (memWrite s 0x0000#16 0x0A#8).cart.ramEnable = true ∧
      (memWrite s 0x2FFF#16 0x00#8).cart.romBank = 0#9 ∧ (memWrite s 0x3000#16 0x01#8).cart.romBank = 1#9 ∧
      (memWrite s 0x5FFF#16 0x1F#8).cart.ramBank = 15#4 ∧ (memWrite s 0x7FFF#16 0x01#8).cart = s.cart := by decide
theorem test_meets_BankZero_1 :
    let s := State.boot { Config.scenario with romCode := 3 } (Boot.standard .one)
    let c := (memWrite s 0x3FFF#16 0x20#8).cart
    romBanks s.cfg = 16 ∧ s.cart.romBank.toNat &&& 0x60 = 0 ∧ (0x20#8).toNat &&& 0x1F = 0 ∧ c.romBank = 1#9 ∧
      (0x10#8).toNat &&& 0x1F ≠ 0 ∧ (0x10#8).toNat &&& 0x1F &&& (romBanks s.cfg - 1) = 0 ∧
      (memWrite s 0x2000#16 0x10#8).cart.romBank = 0#9 := by decide
theorem test_meets_BankZero_2 :
    let s := mapped .variant2
    (0x0100#16).getLsbD 8 = true ∧ (0xF0#8).toNat &&& 0x0F = 0 ∧ (memWrite s 0x0100#16 0xF0#8).cart.romBank = 1#9 ∧
      (0x08#8).toNat &&& 0x0F ≠ 0 ∧ (0x08#8).toNat &&& 0x0F &&& (romBanks s.cfg - 1) = 0 ∧
      (memWrite s 0x3F00#16 0x08#8).cart.romBank = 0#9 := by decide
theorem test_meets_BankZero_3 :
    let s := mapped .variant3
    (0x80#8).toNat &&& 0x7F = 0 ∧ (memWrite s 0x3FFF#16 0x80#8).cart.romBank = 1#9 ∧
      (0x78#8).toNat &&& 0x7F ≠ 0 ∧ (0x78#8).toNat &&& 0x7F &&& (romBanks s.cfg - 1) = 0 ∧
      (memWrite s 0x2000#16 0x78#8).cart.romBank = 0#9 := by decide
theorem test_meets_BankZero_4 :
    let s := mapped .variant4
    s.cart.romBank.toNat &&& 0x100 = 0 ∧ (memWrite s 0x2FFF#16 0x00#8).cart.romBank = 0#9 ∧
      (0xF8#8).toNat &&& 0xFF ≠ 0 ∧ (0xF8#8).toNat &&& 0xFF &&& (romBanks s.cfg - 1) = 0 ∧
      (memWrite s 0x2000#16 0xF8#8).cart.romBank = 0#9 := by decide
theorem test_meets_PageRegister_plain :
    let page : List Byte := [0x00#8, 0x04#8, 0x05#8, 0x06#8, 0x07#8, 0x0F#8, 0x40#8, 0x41#8, 0x42#8, 0x43#8, 0x44#8, 0x45#8,
      0x46#8, 0x47#8, 0x48#8, 0x49#8, 0x4A#8, 0x4B#8, 0xFF#8]
    0x80#8 ∉ page ∧ 0xFE#8 ∉ page ∧ 0x70#8 ∉ page ∧ State.reset.cfg.gen ≠ .two ∧
      memRead (memWrite State.reset 0xFFFE#16 0x5A#8) 0xFFFE#16 = 0x5A#8 := by decide
theorem test_meets_generations : State.reset.cfg.gen = .one ∧ gen2.cfg.gen = .two := by decide
theorem test_meets_BlockDma : (armed 1#8).cfg.gen = .two ∧ (armed 1#8).dma.active = true ∧ gen2.dma.active = false ∧
    (0x7F#8).getLsbD 7 = false ∧ (0x80#8).getLsbD 7 = true ∧
    memRead (memWrite (armed 5#8) 0xFF55#16 0x00#8) 0xFF55#16 = 0x84#8 := by decide
theorem test_meets_ImmediateBlockDma :
    gen2.cfg.gen = .two ∧ gen2.dma.active = false ∧ (0x00#8).getLsbD 7 = false ∧
      (∀ j, j < 16 * ((0x00#8).toNat % 128 + 1) → (gen2.dma.src + BitVec.ofNat 16 j).toNat < 0x8000) ∧
      (∀ j, j < 16 → 0xA000 ≤ (0xFEF0#16 + BitVec.ofNat 16 j).toNat ∧ (0xFEF0#16 + BitVec.ofNat 16 j).toNat < 0xFF00) := by
  decide
theorem test_meets_PacedDma : (armed 128#8).dma.rem.toNat = 128 ∧ 127 < (armed 128#8).dma.rem.toNat ∧
    (armed 1#8).dma.rem.toNat ≤ 1 := by decide
theorem test_meets_PpuStep : State.reset.lcd.lcdc.getLsbD 7 = true ∧
    ({ State.reset with lcd := { State.reset.lcd with lcdc := 0x11#8 } } : State).lcd.lcdc.getLsbD 7 = false := by decide
theorem test_meets_PpuTransitions : (modeAt .search 0#8).lcd.mode = .search ∧ (modeAt .drawing 0#8).lcd.mode = .drawing ∧
    ((modeAt .hblank 142#8).lcd.ly + 1#8).toNat < 144 ∧ 144 ≤ ((modeAt .hblank 143#8).lcd.ly + 1#8).toNat ∧
    (modeAt .vblank 152#8).lcd.ly.toNat + 1 ≤ 153 ∧ 153 < (modeAt .vblank 153#8).lcd.ly.toNat + 1 := by decide
theorem test_meets_FramePosition : State.reset.lcd.lcdc.getLsbD 7 = true ∧ State.reset.lcd.ly = 0#8 ∧
    State.reset.lcd.mode = .search ∧ State.reset.lcd.counter = 80 ∧ AtPosition 0 State.reset ∧
    probe (cpuStep State.reset) (fun u => u.lcd.lcdc.getLsbD 7) = some true := by decide
theorem test_meets_FramePosition_places :
    let there := fun (m : PpuMode) (line : Byte) (left : Int) =>
      ({ State.reset with lcd := { State.reset.lcd with mode := m, ly := line, counter := left } } : State)
    AtPosition 79 (there .search 0#8 1) ∧ AtPosition 80 (there .drawing 0#8 172) ∧ AtPosition 251 (there .drawing 0#8 1) ∧
      AtPosition 252 (there .hblank 0#8 204) ∧ AtPosition 65663 (there .hblank 143#8 1) ∧
      AtPosition 65664 (there .vblank 144#8 456) ∧ AtPosition 70223 (there .vblank 153#8 1) ∧
      AtPosition 70224 (there .search 0#8 80) := by decide
theorem test_meets_RenderLine : (modeAt .drawing 143#8).lcd.ly.toNat < 144 := by decide
theorem test_meets_SpritePriority : State.reset.lcd.lcdc.getLsbD 1 = false ∧ selected State.reset = [] ∧
    selected { State.reset with
      lcd := { State.reset.lcd with lcdc := 0x93#8 }
      ram := { State.reset.ram with oam := [(4, 0x10#8), (8, 0x0C#8), (12, 0x08#8)] } } = [1, 2] := by decide
theorem test_meets_SpritePriority_shown :
    let s : State := { State.reset with
      lcd := { State.reset.lcd with lcdc := 0x93#8 }
      ram := { State.reset.ram with vram := [(0, 0x80#8)], oam := [(0, 0x10#8), (1, 0x08#8)] } }
    selected s = [0] ∧ spriteX s 0 = 8 ∧ spritePixel s 0 0 = 1 ∧ spritePixel s 0 7 = 0 := by decide
theorem test_meets_TilePixels :
    let s : State := { State.reset with ram := { State.reset.ram with oam := [(0, 0x10#8), (1, 0x08#8)] } }
    (0x9800 = 0x9800 ∨ 0x9800 = 0x9C00) ∧ 255 < 256 ∧ spriteY s 0 ≤ s.lcd.ly.toNat + 16 ∧
      s.lcd.ly.toNat + 16 < spriteY s 0 + 8 ∧ spriteX s 0 ≤ 7 + 8 ∧ 7 < spriteX s 0 := by decide
theorem test_meets_BackgroundPixel :
    let win := fun wx : Byte => ({ State.reset with lcd := { State.reset.lcd with lcdc := 0xB1#8, wx := wx } } : State)
    bgOn State.reset = true ∧ winOn State.reset = false ∧ winOn (win 166#8) = true ∧ 166 ≤ 159 + 7 ∧ 158 + 7 < 166 ∧
      winOn (win 167#8) = false ∧
      bgOn { State.reset with lcd := { State.reset.lcd with lcdc := 0x90#8 } } = false ∧ 3 < 4 := by decide
theorem test_meets_Frames :
    let c : Config := { Config.scenario with gen := .two, colours := [(0, 0x123456#24)] }
    c.wf = true ∧ (0, 0x123456#24) ∈ c.colours ∧ frameColour c [] 0 0 = 0x123456#24 ∧
      frameColour c [(160, 0x7FFF#15)] 1 0 = 0xFFFFFF#24 ∧ frameColour Config.scenario [(160, 2#15)] 1 0 = 0x555555#24 := by
  decide
theorem test_meets_Timer : State.reset.tim.tac.getLsbD 2 = false ∧
    (memWrite State.reset 0xFF07#16 0x05#8).tim.tac.getLsbD 2 = true := by decide
theorem test_timer_overflow_reloads :
    let s : State := { State.reset with tim := { State.reset.tim with tima := 0xFF#8, tma := 0x42#8, tac := 0b101#3 } }
    (timerStep 20 s).tim.tima = 0x42#8 ∧ (timerStep 20 s).tim.timaAcc = 4 ∧ (timerStep 20 s).irq.iflag = 0b00101#5 := by
  decide
theorem test_meets_HostMask : ({ State.reset with host := { masks := [some 0x01#8], frames := [] } } : State).host.masks =
    some 0x01#8 :: [] ∧ (0x01#8 ≠ State.reset.pad.inputMask) := by decide
theorem test_meets_the_invariants : FlagNibbleClear State.reset ∧ BanksOk State.reset ∧ LcdOk State.reset ∧
    DmaOk State.reset ∧ TimerOk State.reset ∧ Gen1Ok State.reset := by decide
theorem test_meets_the_array_invariant : ArraysOk State.reset := by decide
theorem test_meets_ResetMeets : Config.scenario.wf = true := by decide
theorem test_steps_somewhere : probe (step State.reset) (fun t => (t.regs.pc, t.lcd.counter)) = some (0x0101#16, 76) := by
  decide

end Sys2Proof.Machine
end

section
/-! PROOFS. The scope's statement: every step completes, agent after agent. -/

namespace Sys2Proof.Machine

/-- Settles O54: what `CPU.step` can do gives the next state and its count (rule R7), and the iteration hands that state
to the devices (rules R8, R9), whose definition names their order and the halved count. -/
theorem everyStepCompletesInAgentOrder : Obligations.EveryStepCompletesInAgentOrder := by
  intro s
  obtain ⟨_, t, hcpu, hruns⟩ := cpuStep_runs s
  refine ⟨t, hcpu, hruns.cost, ?_⟩
  rw [step_next hcpu, devices, ppuCycles]

end Sys2Proof.Machine
end

section
/-! PROOFS. What one iteration keeps, said once for any property (`Kept`), and with it the low nibble of `F` and the
storage arrays. -/

namespace Sys2Proof.Machine

/-! ### What one iteration keeps -/

/-- `P` is kept by every effect a step is made of: the three primitive effects of an instruction, the requests and the
place in the frame, and the agents' own effects. -/
structure Kept (P : State → Prop) : Prop where
  regs : ∀ u g, P u → (g.f = u.regs.f ∨ g.f &&& 0x0F#8 = 0#8) → P (u.withRegs g)
  run : ∀ u (r : Run), P u → (u.cfg.gen = .one → r.ds = u.run.ds ∧ r.speedArmed = u.run.speedArmed) →
    P { u with run := r }
  write : ∀ u a v, P u → P (memWrite u a v)
  placed : ∀ u q ly mode counter wlc, P u →
    P { u with irq := q, lcd := { u.lcd with ly := ly, mode := mode, counter := counter, wlc := wlc } }
  render : ∀ u, P u → P (renderLine u)
  present : ∀ u, P u → P (presentFrame u)
  hblank : ∀ u, P u → P (hblankDma u)
  timed : ∀ u q d acc c, P u → (acc = u.tim.timaAcc ∨ acc < 1024) →
    P { u with irq := q, tim := { u.tim with divCounter := d, timaAcc := acc, tima := c } }
  offered : ∀ u q m r, P u →
    P { u with irq := q, pad := { u.pad with inputMask := m }, host := { u.host with masks := r } }

theorem coincidenceUpdate_shape (s : State) : ∃ q, coincidenceUpdate s = { s with irq := q } := by
  unfold coincidenceUpdate raiseIf
  simp only
  split <;> exact ⟨_, rfl⟩

theorem enterMode_shape (m : PpuMode) (s : State) :
    ∃ q, enterMode m s = { s with
      irq := q, lcd := { s.lcd with mode := m, counter := s.lcd.counter + budget m } } := by
  unfold enterMode raiseIf
  simp only
  split <;> split <;> exact ⟨_, rfl⟩

theorem timerPeriod_le (tac : BitVec 3) : 0 < timerPeriod tac ∧ timerPeriod tac ≤ 1024 := by
  unfold timerPeriod
  split <;> decide

/-- The accumulator is left alone or reduced below the period (rule R466). -/
theorem timerStep_acc (n : Nat) (s : State) :
    (timerStep n s).tim.timaAcc = s.tim.timaAcc ∨ (timerStep n s).tim.timaAcc < 1024 := by
  obtain ⟨hpos, hle⟩ := timerPeriod_le s.tim.tac
  unfold timerStep
  split
  · obtain ⟨f, c, h⟩ := timerTicks_shape ((s.tim.timaAcc + n) / timerPeriod s.tim.tac)
      { s with tim := { s.tim with
          divCounter := s.tim.divCounter + BitVec.ofNat 16 n
          timaAcc := (s.tim.timaAcc + n) % timerPeriod s.tim.tac } }
    simp only [h]
    exact .inr (Nat.lt_of_lt_of_le (Nat.mod_lt _ hpos) hle)
  · exact .inl rfl

namespace Kept

variable {P : State → Prop} (k : Kept P) {s t : State}
include k

theorem reach (h : Reach s t) (hs : P s) : P t := h.keeps hs k.regs k.run k.write

theorem irq (q : Irq) (hs : P s) : P { s with irq := q } :=
  k.placed s q s.lcd.ly s.lcd.mode s.lcd.counter s.lcd.wlc hs

theorem coincidence (hs : P s) : P (coincidenceUpdate s) := by
  obtain ⟨q, hq⟩ := coincidenceUpdate_shape s
  rw [hq]
  exact k.irq q hs

theorem enter (m : PpuMode) (hs : P s) : P (enterMode m s) := by
  obtain ⟨q, hq⟩ := enterMode_shape m s
  rw [hq]
  exact k.placed s q s.lcd.ly m _ s.lcd.wlc hs

theorem counter (n : Int) (hs : P s) : P (addCounter n s) := k.placed s s.irq s.lcd.ly s.lcd.mode _ s.lcd.wlc hs

theorem line (v : Byte) (hs : P s) : P (setLy v s) := k.placed s s.irq v s.lcd.mode s.lcd.counter s.lcd.wlc hs

theorem nextLine (v : Byte) (hs : P s) : P (coincidenceUpdate (setLy v s)) := k.coincidence (k.line v hs)

theorem frozen (hs : P s) : P (freeze s) := k.coincidence (k.placed s s.irq 0#8 .search 80 0#8 hs)

/-- One transition of the mode machine (rule R354). -/
theorem advance (hs : P s) : P (ppuAdvance s) := by
  unfold ppuAdvance
  split
  · exact k.enter .drawing hs
  · exact k.hblank _ (k.enter .hblank (k.render s hs))
  · unfold leaveHblank
    simp only
    split
    · exact k.enter .vblank (k.nextLine _ hs)
    · exact k.enter .search (k.nextLine _ hs)
  · unfold leaveVblankLine
    split
    · exact k.enter .search (k.coincidence (k.placed _ _ 0#8 _ _ 0#8 (k.present s hs)))
    · exact k.counter 456 (k.nextLine _ hs)

theorem loop (fuel : Nat) (hs : P s) : P (ppuLoop fuel s) := by
  induction fuel generalizing s with
  | zero => exact hs
  | succ n ih =>
    unfold ppuLoop
    split
    · exact ih (k.advance hs)
    · exact hs

/-- `PPU.step(n)` (rule R352). -/
theorem ppu (n : Nat) (hs : P s) : P (ppuStep n s) := by
  unfold ppuStep
  split
  · exact k.loop _ (k.counter _ hs)
  · exact k.frozen hs

/-- `Timer.step(n)` (rule R466). -/
theorem timer (n : Nat) (hs : P s) : P (timerStep n s) := by
  have hacc := timerStep_acc n s
  obtain ⟨f, a, c, h⟩ := timerStep_shape n s
  rw [h] at hacc ⊢
  exact k.timed s _ _ a c hs hacc

/-- The Host's action (rule R470). -/
theorem host (hs : P s) : P (hostTurn s) := by
  obtain ⟨f, m, r, h⟩ := hostTurn_shape s
  rw [h]
  exact k.offered s _ m r hs

/-- The agents after the CPU (rules R8, R9, R470). -/
theorem agents (hs : P s) : P (devices s) := k.host (k.timer _ (k.ppu _ hs))

/-- One iteration of the step loop (rule R8). -/
theorem step (hs : P s) (h : Machine.step s = .next t) : P t := by
  obtain ⟨f, u, hcpu, hruns⟩ := cpuStep_runs s
  rw [step_next hcpu] at h
  cases h
  exact k.agents (k.reach hruns.reach (k.irq _ hs))

end Kept

/-! ### The low nibble of `F` (rule R21) -/

theorem flagNibbleClear_congr {s t : State} (h : t.regs = s.regs) (hs : FlagNibbleClear s) : FlagNibbleClear t := by
  unfold FlagNibbleClear
  rw [h]
  exact hs

theorem flagNibbleClear_kept : Kept FlagNibbleClear where
  regs u g hu := by
    rintro (hf | hf)
    · exact (congrArg (· &&& 0x0F#8) hf).trans hu
    · exact hf
  run _ _ hu _ := hu
  write u a v := flagNibbleClear_congr (memWrite_regs u a v)
  placed _ _ _ _ _ _ hu := hu
  render u := flagNibbleClear_congr (shown_renderLine u).regs
  present _ hu := hu
  hblank u := flagNibbleClear_congr (shown_hblankDma u).regs
  timed _ _ _ _ _ hu _ := hu
  offered _ _ _ _ hu := hu

/-- Settles O55: an instruction writes `F` with a clear low nibble or not at all (`Reach`), and no other agent writes a
register. -/
theorem flagLowNibbleStaysClear : Obligations.FlagLowNibbleStaysClear :=
  fun _ _ hs h => flagNibbleClear_kept.step hs h

/-! ### The storage arrays (rule R30) -/

/-- The row of line `ly` lies inside the frame buffer (rule R430). -/
theorem drawnFb_arrayOk {s : State} (hly : s.lcd.ly.toNat < 144) (h : ArrayOk (144 * 160) s.lcd.fb) :
    ArrayOk (144 * 160) (drawnFb s) := by
  have row : ∀ (l : List Nat) (fb : Memory 15), (∀ x ∈ l, x < 160) → ArrayOk (144 * 160) fb →
      ArrayOk (144 * 160) (l.foldl (putPixel s (drawOrder s)) fb) := by
    intro l
    induction l with
    | nil => exact fun _ _ hfb => hfb
    | cons x r ih =>
      intro fb hl hfb
      have hx : x < 160 := hl x List.mem_cons_self
      exact ih _ (fun y hy => hl y (List.mem_cons_of_mem x hy)) (hfb.write _ _ (by omega))
  exact row _ _ (fun x hx => List.mem_range.mp hx) h

theorem renderLine_arrays {s : State} (h : ArraysOk s) : ArraysOk (renderLine s) := by
  unfold renderLine
  split
  case isTrue hly =>
    obtain ⟨hrom, heram, hvram, hwram, hoam, hio, hbg, hobj, hfb, hframes⟩ := h
    exact ⟨hrom, heram, hvram, hwram, hoam, hio, hbg, hobj, drawnFb_arrayOk hly hfb, hframes⟩
  case isFalse => exact h

theorem presentFrame_arrays {s : State} (h : ArraysOk s) : ArraysOk (presentFrame s) := by
  obtain ⟨hrom, heram, hvram, hwram, hoam, hio, hbg, hobj, hfb, hframes⟩ := h
  exact ⟨hrom, heram, hvram, hwram, hoam, hio, hbg, hobj, hfb, List.forall_mem_cons.mpr ⟨hfb, hframes⟩⟩

theorem arraysOk_kept : Kept ArraysOk where
  regs _ _ hu _ := hu
  run _ _ hu _ := hu
  write _ a v hu := memWrite_arrays hu a v
  placed _ _ _ _ _ _ hu := hu
  render _ := renderLine_arrays
  present _ := presentFrame_arrays
  hblank _ := hblankDma_arrays
  timed _ _ _ _ _ hu _ := hu
  offered _ _ _ _ hu := hu

/-- Settles O56: every write of an array, by an instruction or by an agent, stores inside its size and keeps the
canonical form. -/
theorem arraysStayCanonical : Obligations.ArraysStayCanonical := fun _ _ hs h => arraysOk_kept.step hs h

end Sys2Proof.Machine
end

section
/-! PROOFS. The control registers: bank registers, block DMA, Timer and generation 1 stay legal. -/

namespace Sys2Proof.Machine

/-! ### Bits of joined bytes -/

theorem join_and (h l h' l' : Byte) : join h l &&& join h' l' = join (h &&& h') (l &&& l') := BitVec.and_append

theorem byte_high_low (v : Byte) : v &&& 0xF0#8 &&& 0x0F#8 = 0#8 := by
  rw [BitVec.and_assoc]
  exact BitVec.and_zero

/-! ### The bank registers (rules R31, R113, R115, R118) -/

theorem romMask_lt (c : Config) (n : Nat) : (romMask c n).toNat < romBanks c := by
  have hpos : 0 < romBanks c := Nat.mul_pos two_pos (Nat.two_pow_pos _)
  have hand : n &&& (romBanks c - 1) ≤ romBanks c - 1 := Nat.and_le_right
  have hmod := Nat.mod_le (n &&& (romBanks c - 1)) (2 ^ 9)
  rw [romMask, BitVec.toNat_ofNat]
  omega

/-- The claim depends on the configuration and the cartridge only. -/
theorem BanksOk.congr {s t : State} (h : BanksOk s) (hcfg : t.cfg = s.cfg) (hcart : t.cart = s.cart) : BanksOk t := by
  unfold BanksOk
  rw [hcfg, hcart]
  exact h

theorem setRomBank_banks {s : State} (h : BanksOk s) (n : Nat) : BanksOk (setRomBank s n) :=
  ⟨romMask_lt s.cfg n, h.2⟩

/-- Only variant 1 limits `ram_bank` to two bits, and only variant 2 forbids it (rules R113, R115). -/
theorem ramBank_banks {s : State} (h : BanksOk s) (b : BitVec 4) (h1 : s.cfg.mapper = .variant1 → b.toNat < 4)
    (h2 : s.cfg.mapper ≠ .variant2) : BanksOk { s with cart := { s.cart with ramBank := b } } :=
  ⟨h.1, h1, fun hm => absurd hm h2, h.2.2.2⟩

theorem mapper1Write_banks {s : State} (h : BanksOk s) (hm : s.cfg.mapper = .variant1) (a : Word) (w : Byte) :
    BanksOk (mapper1Write s a w) := by
  obtain ⟨hrom, hram, -, -⟩ := id h
  unfold mapper1Write
  split
  · exact h
  split
  · exact setRomBank_banks h _
  split
  · split
    · refine ramBank_banks h _ (fun _ => ?_) (by simp [hm])
      have : w.toNat &&& 3 ≤ 3 := Nat.and_le_right
      rw [BitVec.toNat_ofNat]
      omega
    · exact setRomBank_banks h _
  · refine ⟨hrom, fun _ => ?_, by simp [hm], by simp [hm]⟩
    show (if bit w 0 = true then s.cart.ramBank else 0#4).toNat < 4
    split
    · exact hram hm
    · decide

theorem mapper2Write_banks {s : State} (h : BanksOk s) (a : Word) (w : Byte) : BanksOk (mapper2Write s a w) := by
  unfold mapper2Write
  split
  · split
    · exact setRomBank_banks h _
    · split <;> exact h
  · exact h

theorem mapper3Write_banks {s : State} (h : BanksOk s) (hm : s.cfg.mapper = .variant3) (a : Word) (w : Byte) :
    BanksOk (mapper3Write s a w) := by
  unfold mapper3Write
  split
  · exact h
  split
  · exact setRomBank_banks h _
  split
  · exact ramBank_banks h _ (by simp [hm]) (by simp [hm])
  · exact h

theorem mapper4Write_banks {s : State} (h : BanksOk s) (hm : s.cfg.mapper = .variant4) (a : Word) (w : Byte) :
    BanksOk (mapper4Write s a w) := by
  unfold mapper4Write
  split
  · exact h
  split
  · exact setRomBank_banks h _
  split
  · exact setRomBank_banks h _
  split
  · exact ramBank_banks h _ (by simp [hm]) (by simp [hm])
  · exact h

theorem mapperWrite_banks {s : State} (h : BanksOk s) (a : Word) (w : Byte) : BanksOk (mapperWrite s a w) := by
  unfold mapperWrite
  split
  case h_1 hm => exact mapper1Write_banks h hm a w
  case h_2 => exact mapper2Write_banks h a w
  case h_3 hm => exact mapper3Write_banks h hm a w
  case h_4 hm => exact mapper4Write_banks h hm a w

theorem memWrite_banks {s : State} (h : BanksOk s) (a : Word) (v : Byte) : BanksOk (memWrite s a v) := by
  unfold memWrite
  cases place s a
  case rom => exact mapperWrite_banks h a v
  case page i => exact h.congr (pageWrite_untouched s i v).cfg (pageWrite_cart s i v)
  all_goals exact h

theorem banksOk_kept : Kept BanksOk where
  regs _ _ hu _ := hu
  run _ _ hu _ := hu
  write _ a v hu := memWrite_banks hu a v
  placed _ _ _ _ _ _ hu := hu
  render u hu := hu.congr (shown_renderLine u).cfg (shown_renderLine u).cart
  present _ hu := hu
  hblank u hu := hu.congr (shown_hblankDma u).cfg (shown_hblankDma u).cart
  timed _ _ _ _ _ hu _ := hu
  offered _ _ _ _ hu := hu

/-! ### The block DMA (rules R47, R48, R125 to R130) -/

/-- Both pointers of a block transfer are legal: the destination in video RAM, both on 16-byte boundaries. -/
abbrev DmaAligned (s : State) : Prop := s.dma.dst &&& 0xE00F#16 = 0x8000#16 ∧ s.dma.src &&& 0x000F#16 = 0#16

theorem dst_legal_iff (w : Word) :
    w &&& 0xE00F#16 = 0x8000#16 ↔ hiByte w &&& 0xE0#8 = 0x80#8 ∧ loByte w &&& 0x0F#8 = 0#8 := by
  have hjoin : w &&& 0xE00F#16 = join (hiByte w &&& 0xE0#8) (loByte w &&& 0x0F#8) := by
    rw [← join_and, join_hi_lo]
    rfl
  rw [hjoin]
  constructor
  · intro h
    exact ⟨(hiByte_join ..).symm.trans (congrArg hiByte h), (loByte_join ..).symm.trans (congrArg loByte h)⟩
  · rintro ⟨hhi, hlo⟩
    rw [hhi, hlo]
    rfl

theorem src_legal_iff (w : Word) : w &&& 0x000F#16 = 0#16 ↔ loByte w &&& 0x0F#8 = 0#8 := by
  have hjoin : w &&& 0x000F#16 = join 0#8 (loByte w &&& 0x0F#8) := by
    rw [← BitVec.and_zero (x := hiByte w), ← join_and, join_hi_lo]
    rfl
  rw [hjoin]
  constructor
  · intro h
    exact (loByte_join ..).symm.trans (congrArg loByte h)
  · intro hlo
    rw [hlo]
    rfl

/-- A block is 16 bytes, so the pointers keep their low nibbles. -/
theorem add_block_low (w : Word) : (w + 16#16) &&& 0x000F#16 = w &&& 0x000F#16 := by
  apply BitVec.eq_of_toNat_eq
  have hlow (n : Nat) : n &&& 15 = n % 16 := Nat.and_two_pow_sub_one_eq_mod n 4
  simp only [BitVec.toNat_and, BitVec.toNat_add, BitVec.toNat_ofNat, Nat.reducePow, Nat.reduceMod, hlow]
  omega

/-- The wrapped destination after a block (rule R130). -/
theorem nextDst_legal {w : Word} (h : w &&& 0xE00F#16 = 0x8000#16) :
    (0x8000#16 ||| ((w + 16#16) &&& 0x1FFF#16)) &&& 0xE00F#16 = 0x8000#16 := by
  have hlow : w &&& 0x000F#16 = 0#16 := by
    calc w &&& 0x000F#16 = w &&& 0xE00F#16 &&& 0x000F#16 := by rw [BitVec.and_assoc]; rfl
      _ = 0#16 := by rw [h]; rfl
  calc (0x8000#16 ||| ((w + 16#16) &&& 0x1FFF#16)) &&& 0xE00F#16
      = 0x8000#16 ||| ((w + 16#16) &&& 0x000F#16) := by rw [BitVec.and_or_distrib_right, BitVec.and_assoc]; rfl
    _ = 0x8000#16 := by rw [add_block_low, hlow]; rfl

theorem copyBlock_aligned {s : State} (h : DmaAligned s) : DmaAligned (copyBlock s) := by
  obtain ⟨v, hv⟩ := copyBlock_shape s
  rw [hv]
  exact ⟨nextDst_legal h.1, (add_block_low s.dma.src).trans h.2⟩

theorem copyBlocks_aligned (k : Nat) {s : State} (h : DmaAligned s) : DmaAligned (copyBlocks k s) := by
  induction k generalizing s with
  | zero => exact h
  | succ k ih => exact ih (copyBlock_aligned h)

/-- The block count of a write to `HDMA5`, 1 to 128 (rule R125). -/
theorem blockCount_range (w : Byte) : 0 < ((w &&& 0x7F#8) + 1#8).toNat ∧ ((w &&& 0x7F#8) + 1#8).toNat ≤ 128 := by
  have hlow : w.toNat &&& 127 ≤ 127 := Nat.and_le_right
  simp only [BitVec.toNat_add, BitVec.toNat_and, BitVec.toNat_ofNat, Nat.reducePow, Nat.reduceMod]
  omega

theorem hdma5Write_dma {s : State} (h : DmaOk s) (w : Byte) : DmaOk (hdma5Write s w) := by
  obtain ⟨hrem, hact, hdst, hsrc⟩ := h
  obtain ⟨hpos, hle⟩ := blockCount_range w
  unfold hdma5Write
  split
  case isTrue => exact ⟨hrem, fun hf => absurd hf Bool.false_ne_true, hdst, hsrc⟩
  case isFalse hcancel =>
    have hne : (w &&& 0x7F#8) + 1#8 ≠ 0#8 := fun h0 => by rw [h0] at hpos; exact absurd hpos (by decide)
    dsimp only
    split
    case isTrue => exact ⟨hle, fun _ => hne, hdst, hsrc⟩
    case isFalse h7 =>
      have hidle : s.dma.active = false := by simpa [h7] using hcancel
      have hal : DmaAligned { s with dma := { s.dma with rem := (w &&& 0x7F#8) + 1#8 } } := ⟨hdst, hsrc⟩
      have hal := copyBlocks_aligned ((w &&& 0x7F#8) + 1#8).toNat hal
      obtain ⟨v, src, dst, hcopy⟩ := copyBlocks_shape ((w &&& 0x7F#8) + 1#8).toNat
        { s with dma := { s.dma with rem := (w &&& 0x7F#8) + 1#8 } }
      rw [hcopy] at hal ⊢
      refine ⟨?_, fun hf => absurd (hidle.symm.trans hf) Bool.false_ne_true, hal⟩
      show ((w &&& 0x7F#8) + 1#8 - BitVec.ofNat 8 ((w &&& 0x7F#8) + 1#8).toNat).toNat ≤ 128
      simp

theorem pageWrite_dma {s : State} (h : DmaOk s) (i v : Byte) : DmaOk (pageWrite s i v) := by
  obtain ⟨hrem, hact, hdst, hsrc⟩ := id h
  obtain ⟨hhi, hlo⟩ := (dst_legal_iff _).mp hdst
  have hslo := (src_legal_iff _).mp hsrc
  unfold pageWrite
  cases pageReg s.cfg.gen i
  case hdma1 => exact ⟨hrem, hact, hdst, (src_legal_iff _).mpr (by simpa using hslo)⟩
  case hdma2 => exact ⟨hrem, hact, hdst, (src_legal_iff _).mpr (by simpa using byte_high_low v)⟩
  case hdma3 =>
    have hnew : (0x80#8 ||| (v &&& 0x1F#8)) &&& 0xE0#8 = 0x80#8 := by
      rw [BitVec.and_or_distrib_right, BitVec.and_assoc]
      exact (congrArg (0x80#8 ||| ·) BitVec.and_zero).trans BitVec.or_zero
    exact ⟨hrem, hact, (dst_legal_iff _).mpr (by simpa using ⟨hnew, hlo⟩), hsrc⟩
  case hdma4 => exact ⟨hrem, hact, (dst_legal_iff _).mpr (by simpa using ⟨hhi, byte_high_low v⟩), hsrc⟩
  case hdma5 => exact hdma5Write_dma h v
  case dma => obtain ⟨o, ho⟩ := oamDmaWrite_shape s v; simp only [ho]; exact h
  case lyc => simpa [DmaOk] using h
  all_goals exact h

theorem memWrite_dma {s : State} (h : DmaOk s) (a : Word) (v : Byte) : DmaOk (memWrite s a v) := by
  unfold memWrite
  cases place s a
  case rom => obtain ⟨c, hc⟩ := mapperWrite_shape s a v; simp only [hc]; exact h
  case page i => exact pageWrite_dma h i v
  all_goals exact h

/-- A block of an active transfer: one fewer is left, and the transfer ends with the last (rule R128). -/
theorem hblankDma_dma {s : State} (h : DmaOk s) : DmaOk (hblankDma s) := by
  obtain ⟨hrem, hact, hdst, hsrc⟩ := id h
  obtain ⟨hdst', hsrc'⟩ := copyBlock_aligned ⟨hdst, hsrc⟩
  obtain ⟨v, hv⟩ := copyBlock_shape s
  unfold hblankDma
  split
  case isFalse => exact h
  case isTrue hon =>
    have hleft : s.dma.rem ≠ 0#8 := hact hon
    have hless : (copyBlock s).dma.rem.toNat ≤ 128 := by
      rw [hv]
      show (s.dma.rem - 1#8).toNat ≤ 128
      bv_omega
    dsimp only
    split
    · exact ⟨hless, fun hf => absurd hf Bool.false_ne_true, hdst', hsrc'⟩
    · exact ⟨hless, fun _ => ‹_›, hdst', hsrc'⟩

theorem dmaOk_kept : Kept DmaOk where
  regs _ _ hu _ := hu
  run _ _ hu _ := hu
  write _ a v hu := memWrite_dma hu a v
  placed _ _ _ _ _ _ hu := hu
  render u hu := by unfold renderLine; split <;> exact hu
  present _ hu := hu
  hblank _ := hblankDma_dma
  timed _ _ _ _ _ hu _ := hu
  offered _ _ _ _ hu := hu

/-! ### The Timer's accumulator (rule R466) -/

theorem timerOk_kept : Kept TimerOk where
  regs _ _ hu _ := hu
  run _ _ hu _ := hu
  write u a v hu := (memWrite_untouched u a v).acc.trans_le hu
  placed _ _ _ _ _ _ hu := hu
  render u hu := by unfold renderLine; split <;> exact hu
  present _ hu := hu
  hblank u hu := by unfold TimerOk; rw [(shown_hblankDma u).tim]; exact hu
  timed u _ _ acc _ hu := by
    rintro (hacc | hacc)
    · exact hacc.trans_le hu
    · exact Nat.le_of_lt_succ hacc
  offered _ _ _ _ hu := hu

/-! ### Generation 1 (rules R27, R44, R47) -/

/-- What of the speed and the block DMA must be off on generation 1. -/
abbrev Gen1Off (s : State) : Prop := s.run.ds = false ∧ s.run.speedArmed = false ∧ s.dma.active = false

/-- The registers that arm a speed switch or a block transfer are no registers on generation 1 (rule R100). -/
theorem pageReg_one (i : Byte) : pageReg .one i ≠ .key1 ∧ pageReg .one i ≠ .hdma5 := by
  unfold pageReg
  split <;> exact ⟨PageReg.noConfusion, PageReg.noConfusion⟩

theorem pageWrite_gen1 {s : State} (hg : s.cfg.gen = .one) (h : Gen1Off s) (i v : Byte) : Gen1Off (pageWrite s i v) := by
  obtain ⟨hkey1, hhdma5⟩ := pageReg_one i
  unfold pageWrite
  rw [hg]
  cases hr : pageReg .one i
  case key1 => exact absurd hr hkey1
  case hdma5 => exact absurd hr hhdma5
  case dma => obtain ⟨o, ho⟩ := oamDmaWrite_shape s v; simp only [ho]; exact h
  case lyc => simpa [Gen1Off] using h
  all_goals exact h

theorem memWrite_gen1 {s : State} (h : Gen1Ok s) (a : Word) (v : Byte) : Gen1Ok (memWrite s a v) := by
  intro hg
  rw [memWrite_cfg] at hg
  have hoff : Gen1Off s := h hg
  show Gen1Off (memWrite s a v)
  unfold memWrite
  cases place s a
  case rom => obtain ⟨c, hc⟩ := mapperWrite_shape s a v; simp only [hc]; exact hoff
  case page i => exact pageWrite_gen1 hg hoff i v
  all_goals exact hoff

theorem hblankDma_gen1 {s : State} (h : Gen1Ok s) : Gen1Ok (hblankDma s) := by
  intro hg
  obtain ⟨hds, harm, hoff⟩ := h ((shown_hblankDma s).cfg ▸ hg)
  unfold hblankDma
  rw [hoff]
  exact ⟨hds, harm, hoff⟩

theorem gen1Ok_kept : Kept Gen1Ok where
  regs _ _ hu _ := hu
  run u r hu hr hg := by
    obtain ⟨hds, harm⟩ := hr hg
    obtain ⟨hds', harm', hoff⟩ := hu hg
    exact ⟨hds.trans hds', harm.trans harm', hoff⟩
  write _ a v hu := memWrite_gen1 hu a v
  placed _ _ _ _ _ _ hu := hu
  render u hu := by unfold renderLine; split <;> exact hu
  present _ hu := hu
  hblank _ := hblankDma_gen1
  timed _ _ _ _ _ hu _ := hu
  offered _ _ _ _ hu := hu

/-- Settles O57: each of the four is kept by every effect of a step, from itself alone. -/
theorem controlRegistersStayLegal : Obligations.ControlRegistersStayLegal := fun _ _ h =>
  ⟨fun hs => banksOk_kept.step hs h, fun hs => dmaOk_kept.step hs h, fun hs => timerOk_kept.step hs h,
    fun hs => gen1Ok_kept.step hs h⟩

end Sys2Proof.Machine
end

section
/-! PROOFS. The register page: what a write stores and a read answers. -/

namespace Sys2Proof.Machine

/-! ### Addresses of the page -/

theorem pageAddress_toNat (i : Byte) : (pageAddress i).toNat = 0xFF00 + i.toNat := by
  have hor : 0xFF <<< 8 ||| i.toNat = 0xFF <<< 8 + i.toNat := (Nat.shiftLeft_add_eq_or_of_lt i.isLt 0xFF).symm
  have hlt := i.isLt
  simp only [pageAddress, BitVec.toNat_or, BitVec.toNat_setWidth]
  rw [Nat.mod_eq_of_lt (by omega)]
  exact hor

theorem place_page (s : State) (i : Byte) : place s (pageAddress i) = .page i := by
  have hnat := pageAddress_toNat i
  have hlo : loByte (pageAddress i) = i := by
    apply BitVec.eq_of_toNat_eq
    simp only [loByte, BitVec.extractLsb'_toNat, hnat, Nat.shiftRight_zero]
    omega
  unfold place
  iterate 8 rw [if_neg (by omega)]
  rw [hlo]

theorem memRead_page (s : State) (i : Byte) : memRead s (pageAddress i) = pageRead s i := by rw [memRead, place_page]

theorem memWrite_page (s : State) (i v : Byte) : memWrite s (pageAddress i) v = pageWrite s i v := by
  rw [memWrite, place_page]

theorem readBack_page (s : State) (i v : Byte) :
    memRead (memWrite s (pageAddress i) v) (pageAddress i) = pageRead (pageWrite s i v) i := by
  rw [memWrite_page, memRead_page]

/-- An address outside the table of rule R91 is a plain byte (rule R100). -/
theorem pageReg_plain {g : Gen} {n : Byte}
    (h : n ∉ [0x00#8, 0x04#8, 0x05#8, 0x06#8, 0x07#8, 0x0F#8, 0x40#8, 0x41#8, 0x42#8, 0x43#8, 0x44#8, 0x45#8, 0x46#8,
      0x47#8, 0x48#8, 0x49#8, 0x4A#8, 0x4B#8, 0xFF#8])
    (h2 : g = .two → n ∉ [0x4D#8, 0x4F#8, 0x51#8, 0x52#8, 0x53#8, 0x54#8, 0x55#8, 0x68#8, 0x69#8, 0x6A#8, 0x6B#8,
      0x6C#8, 0x70#8]) : pageReg g n = .plain := by
  simp only [List.mem_cons, List.not_mem_nil, or_false, not_or, ← BitVec.toNat_inj, BitVec.toNat_ofNat, Nat.reducePow,
    Nat.reduceMod] at h h2
  unfold pageReg
  cases g
  case one => split <;> simp only [onlyGen2, reduceCtorEq] <;> omega
  case two =>
    have h2 := h2 rfl
    split <;> simp only [onlyGen2, reduceCtorEq] <;> omega

/-! ### Registers with fixed bits -/

/-- A register whose low `k` bits are stored and whose others read as `h`. -/
theorem append_low_field {m k : Nat} (h : BitVec m) (v : BitVec (m + k)) :
    h ++ v.extractLsb' 0 k = (h ++ 0#k) ||| (v &&& (0#m ++ BitVec.allOnes k)) := by
  ext i hi
  by_cases hk : i < k <;> simp [BitVec.getElem_append, hk, BitVec.getLsbD_eq_getElem hi]

theorem ofBool_bit (v : Byte) (i : Nat) : BitVec.ofBool (bit v i) = v.extractLsb' i 1 := by
  ext j hj
  obtain rfl : j = 0 := by omega
  simp [bit]

/-- The index and the step flag of a colour table (rule R50), bit 6 fixed. -/
theorem paletteIndex_bits (v : Byte) :
    BitVec.ofBool (bit v 7) ++ 1#1 ++ v.extractLsb' 0 6 = 0x40#8 ||| (v &&& 0xBF#8) := by
  apply BitVec.eq_of_getLsbD_eq
  intro i hi
  interval_cases i <;>
    simp only [bit, BitVec.getLsbD_append, BitVec.getLsbD_or, BitVec.getLsbD_and] <;> simp

/-- `STAT`: the enables are stored, the low three bits stay as they read (rule R34). -/
theorem stat_bits (v : Byte) (c : Bool) (mode : BitVec 2) (old : BitVec 4) :
    1#1 ++ v.extractLsb' 3 4 ++ BitVec.ofBool c ++ mode =
      0x80#8 ||| (v &&& 0x78#8) ||| ((1#1 ++ old ++ BitVec.ofBool c ++ mode) &&& 0x07#8) := by
  apply BitVec.eq_of_getLsbD_eq
  intro i hi
  interval_cases i <;>
    simp only [BitVec.getLsbD_append, BitVec.getLsbD_or, BitVec.getLsbD_and] <;> simp

/-- `KEY1`: the speed and the armed bit (rule R44). -/
theorem key1_bits (v : Byte) (ds : Bool) :
    BitVec.ofBool ds ++ 0x3F#6 ++ BitVec.ofBool (bit v 0) = bitByte ds <<< 7 ||| 0x7E#8 ||| (v &&& 0x01#8) := by
  apply BitVec.eq_of_getLsbD_eq
  intro i hi
  cases ds <;> interval_cases i <;>
    simp only [bit, bitByte, BitVec.getLsbD_append, BitVec.getLsbD_or, BitVec.getLsbD_and] <;> simp

/-- `P1`: a half of the input mask is read where its select bit is 0 (rule R42). -/
theorem p1_bits (v m : Byte) :
    p1Read { select := v.extractLsb' 4 2, inputMask := m } =
      0xC0#8 ||| (v &&& 0x30#8) ||| (0x0F#8 &&& ~~~ (
        (if v.getLsbD 4 = false then m &&& 0x0F#8 else 0#8) |||
        (if v.getLsbD 5 = false then m >>> 4 else 0#8))) := by
  have h4 : (v.extractLsb' 4 2).getLsbD 0 = v.getLsbD 4 := by simp
  have h5 : (v.extractLsb' 4 2).getLsbD 1 = v.getLsbD 5 := by simp
  apply BitVec.eq_of_getLsbD_eq
  intro i hi
  unfold p1Read
  simp only [h4, h5]
  cases v.getLsbD 4 <;> cases v.getLsbD 5 <;> interval_cases i <;>
    simp only [BitVec.getLsbD_append, BitVec.getLsbD_or, BitVec.getLsbD_and] <;> simp

/-! ### The registers of both generations -/

theorem readBack_lyc (s : State) (v : Byte) : memRead (memWrite s 0xFF45#16 v) 0xFF45#16 = v :=
  calc memRead (memWrite s 0xFF45#16 v) 0xFF45#16
      = pageRead (coincidenceUpdate { s with lcd := { s.lcd with lyc := v } }) 0x45#8 := readBack_page s 0x45#8 v
    _ = (coincidenceUpdate { s with lcd := { s.lcd with lyc := v } }).lcd.lyc := rfl
    _ = v := by rw [coincidenceUpdate_lcd]

theorem readBack_dma (s : State) (v : Byte) : memRead (memWrite s 0xFF46#16 v) 0xFF46#16 = v := by
  obtain ⟨o, ho⟩ := oamDmaWrite_shape s v
  calc memRead (memWrite s 0xFF46#16 v) 0xFF46#16
      = pageRead (oamDmaWrite s v) 0x46#8 := readBack_page s 0x46#8 v
    _ = (oamDmaWrite s v).dma.port := rfl
    _ = v := by rw [ho]

theorem readBack_div (s : State) (v : Byte) : memRead (memWrite s 0xFF04#16 v) 0xFF04#16 = 0#8 :=
  (readBack_page s 0x04#8 v).trans (by decide : hiByte 0#16 = 0#8)

theorem readBack_tac (s : State) (v : Byte) : memRead (memWrite s 0xFF07#16 v) 0xFF07#16 = 0xF8#8 ||| (v &&& 0x07#8) :=
  append_low_field (m := 5) (k := 3) 0x1F#5 v

theorem readBack_iflag (s : State) (v : Byte) : memRead (memWrite s 0xFF0F#16 v) 0xFF0F#16 = 0xE0#8 ||| (v &&& 0x1F#8) :=
  append_low_field (m := 3) (k := 5) 7#3 v

theorem readBack_stat (s : State) (v : Byte) :
    memRead (memWrite s 0xFF41#16 v) 0xFF41#16 = 0x80#8 ||| (v &&& 0x78#8) ||| (memRead s 0xFF41#16 &&& 0x07#8) :=
  stat_bits v s.irq.coincidence (modeCode s.lcd.mode) s.irq.statEnable

/-! ### Plain bytes -/

theorem pageWrite_plain {s : State} {i : Byte} (h : pageReg s.cfg.gen i = .plain) (v : Byte) :
    pageWrite s i v = { s with ram := { s.ram with io := s.ram.io.write i.toNat v } } := by rw [pageWrite, h]

theorem pageRead_plain {s : State} {i : Byte} (h : pageReg s.cfg.gen i = .plain) :
    pageRead s i = s.ram.io.read i.toNat := by rw [pageRead, h]

theorem readBack_plain {s : State} {i : Byte} (h : pageReg s.cfg.gen i = .plain) (v : Byte) :
    memRead (memWrite s (pageAddress i) v) (pageAddress i) = v := by
  rw [readBack_page, pageWrite_plain h]
  refine (pageRead_plain ?_).trans (read_write_same ..)
  exact h

/-! ### The registers of generation 2 -/

theorem readBack_gen2 {s : State} (hg : s.cfg.gen = .two) (v : Byte) :
    memRead (memWrite s 0xFF4D#16 v) 0xFF4D#16 = bitByte s.run.ds <<< 7 ||| 0x7E#8 ||| (v &&& 0x01#8) ∧
      memRead (memWrite s 0xFF4F#16 v) 0xFF4F#16 = 0xFE#8 ||| (v &&& 0x01#8) ∧
      memRead (memWrite s 0xFF68#16 v) 0xFF68#16 = 0x40#8 ||| (v &&& 0xBF#8) ∧
      memRead (memWrite s 0xFF6A#16 v) 0xFF6A#16 = 0x40#8 ||| (v &&& 0xBF#8) ∧
      memRead (memWrite s 0xFF6C#16 v) 0xFF6C#16 = 0xFE#8 ||| (v &&& 0x01#8) ∧
      memRead (memWrite s 0xFF70#16 v) 0xFF70#16 = 0xF8#8 ||| (v &&& 0x07#8) := by
  have hbit : 0x7F#7 ++ v.extractLsb' 0 1 = 0xFE#8 ||| (v &&& 0x01#8) := append_low_field (m := 7) (k := 1) 0x7F#7 v
  rcases s with ⟨⟨gen⟩⟩
  cases hg
  exact ⟨key1_bits v _, hbit, paletteIndex_bits v, paletteIndex_bits v, (congrArg (0x7F#7 ++ ·) (ofBool_bit v 0)).trans hbit,
    append_low_field (m := 5) (k := 3) 0x1F#5 v⟩

/-- Settles O38: the address of a register selects its arm of `pageRead` and `pageWrite`; what is left are the fixed
bits, proved above for each register that has some. -/
theorem pageRegisterWritesAndReads : Obligations.PageRegisterWritesAndReads := by
  refine ⟨fun s v => ?_, fun s v => ?_, fun s n v h h2 => ?_⟩
  · simp only [List.forall_mem_cons]
    refine ⟨⟨rfl, rfl, rfl, rfl, rfl, readBack_lyc s v, readBack_dma s v, rfl, rfl, rfl, rfl, rfl, rfl,
      List.forall_mem_nil _⟩, readBack_div s v, readBack_tac s v, readBack_iflag s v, readBack_stat s v, rfl,
      p1_bits v s.pad.inputMask, fun hg => ?_, fun hg => ?_⟩
    · obtain ⟨hkey1, hvbk, hbcps, hocps, hopri, hsvbk⟩ := readBack_gen2 hg v
      refine ⟨hkey1, hvbk, hbcps, hocps, ?_, ?_, hopri, hsvbk, ?_⟩
      all_goals
        rcases s with ⟨⟨gen⟩⟩
        cases hg
      · rfl
      · rfl
      · exact ⟨rfl, rfl, rfl, rfl, List.forall_mem_nil _⟩
    · have old (i : Byte) (hi : pageReg .one i = .plain) :
          memRead (memWrite s (pageAddress i) v) (pageAddress i) = v := readBack_plain (hg ▸ hi) v
      exact ⟨old 0x4D#8 rfl, old 0x4F#8 rfl, old 0x51#8 rfl, old 0x52#8 rfl, old 0x53#8 rfl, old 0x54#8 rfl,
        old 0x55#8 rfl, old 0x68#8 rfl, old 0x69#8 rfl, old 0x6A#8 rfl, old 0x6B#8 rfl, old 0x6C#8 rfl,
        old 0x70#8 rfl, List.forall_mem_nil _⟩
  · refine ⟨rfl, rfl, rfl, rfl, rfl, rfl, rfl, rfl, rfl, rfl, rfl, rfl, rfl, fun hg => ?_⟩
    rcases s with ⟨⟨gen⟩⟩
    cases hg
    exact ⟨rfl, rfl, rfl, rfl, rfl, rfl, rfl, rfl, rfl, rfl, rfl, rfl⟩
  · have hplain := pageReg_plain h h2
    exact ⟨(memRead_page s n).trans (pageRead_plain hplain), (memWrite_page s n v).trans (pageWrite_plain hplain v)⟩

end Sys2Proof.Machine
end

section
/-! PROOFS. The bytes the decoder looks at, and the step that runs what they decode to. -/

namespace Sys2Proof.Machine

/-! ### The decoder looks at the bytes of the instruction only, and never answers the row of 0xCB -/

/-- An opcode is its three fields (rule R141). -/
theorem opcode_eq_iff (op c : Byte) : op = c ↔ xOf op = xOf c ∧ yOf op = yOf c ∧ zOf op = zOf c := by
  unfold xOf yOf zOf
  constructor
  · rintro rfl
    exact ⟨rfl, rfl, rfl⟩
  · intro ⟨hx, hy, hz⟩
    exact BitVec.eq_of_toNat_eq (by omega)

theorem xOf_lt (op : Byte) : xOf op < 4 := by
  unfold xOf
  omega

theorem yOf_lt (op : Byte) : yOf op < 8 := Nat.mod_lt _ (by decide)

theorem yOf_eq (op : Byte) : yOf op = 2 * pOf op + qOf op := (Nat.div_add_mod ..).symm

theorem qOf_lt (op : Byte) : qOf op < 2 := Nat.mod_lt _ (by decide)

theorem decodeX0_ignores {op n1 m1 : Byte} (hx : xOf op = 0) (h3 : hasThreeBytes op = false)
    (h2 : hasTwoBytes op = true → n1 = m1) (n2 m2 : Byte) : decodeX0 op n1 n2 = decodeX0 op m1 m2 := by
  simp only [hasThreeBytes, hx, opcode_eq_iff, Bool.or_eq_false_iff, Bool.and_eq_false_iff,
    decide_eq_false_iff_not] at h3
  obtain ⟨h08, hpair⟩ := h3
  simp only [hasTwoBytes, hx, Bool.or_eq_true, Bool.and_eq_true, decide_eq_true_eq] at h2
  unfold decodeX0
  split
  case h_1 hz =>
    have hne : yOf op ≠ 1 := fun hy => h08 ⟨rfl, hy, hz⟩
    have hy : yOf op = 0 ∨ 2 ≤ yOf op := by omega
    rcases hy with hy | hy
    · simp only [hy]
    · obtain rfl := h2 (.inr ⟨hz, hy⟩)
      split
      case h_2 hy1 => exact absurd hy1 hne
      all_goals rfl
  case h_2 hz =>
    split
    case h_1 hq => exact absurd hpair (by simp [hz, hq])
    case h_2 => rfl
  case h_7 hz => rw [h2 (.inl hz)]
  all_goals rfl

theorem decodeX3_ignores {op n1 m1 : Byte} (hx : xOf op = 3) (h3 : hasThreeBytes op = false)
    (h2 : hasTwoBytes op = true → n1 = m1) (n2 m2 : Byte) : decodeX3 op n1 n2 = decodeX3 op m1 m2 := by
  simp only [hasThreeBytes, hx, opcode_eq_iff, Bool.or_eq_false_iff, Bool.and_eq_false_iff,
    decide_eq_false_iff_not] at h3
  obtain ⟨⟨⟨habs, hC3⟩, hcall⟩, hCD⟩ := h3
  simp only [hasTwoBytes, hx, opcode_eq_iff op, Bool.or_eq_true, Bool.and_eq_true, decide_eq_true_eq] at h2
  have hlt := yOf_lt op
  unfold decodeX3
  split
  case h_1 hz =>
    by_cases hy : 4 ≤ yOf op
    · rw [h2 (.inl (.inr ⟨hz, hy⟩))]
    · have hy : yOf op = 0 ∨ yOf op = 1 ∨ yOf op = 2 ∨ yOf op = 3 := by omega
      rcases hy with hy | hy | hy | hy <;> simp only [hy]
  case h_3 hz =>
    have hy : yOf op = 4 ∨ yOf op = 6 := by
      have hn := habs.resolve_left (absurd hz)
      omega
    rcases hy with hy | hy <;> simp only [hy]
  case h_4 hz =>
    split
    case h_1 hy => exact absurd ⟨rfl, hy, hz⟩ hC3
    case h_2 hy => rw [h2 (.inr ⟨rfl, hy, hz⟩)]
    all_goals rfl
  case h_5 hz =>
    have hy : yOf op = 4 ∨ yOf op = 5 ∨ yOf op = 6 ∨ yOf op = 7 := by
      have hn := hcall.resolve_left (absurd hz)
      omega
    rcases hy with hy | hy | hy | hy <;> simp only [hy]
  case h_6 hz =>
    split
    case h_2 hp hq =>
      have hsum := yOf_eq op
      have hle := qOf_lt op
      have hne : qOf op ≠ 0 := hq
      exact absurd ⟨rfl, (by omega : yOf op = 1), hz⟩ hCD
    all_goals rfl
  case h_7 hz => rw [h2 (.inl (.inl hz))]
  all_goals rfl

/-- The bytes beyond the opcode's length do not matter (rule R143). -/
theorem decodeBytes_ignores {op n1 m1 : Byte} (h3 : hasThreeBytes op = false) (h2 : hasTwoBytes op = true → n1 = m1)
    (n2 m2 : Byte) : decodeBytes op n1 n2 = decodeBytes op m1 m2 := by
  unfold decodeBytes
  split
  case h_1 hx => exact decodeX0_ignores hx h3 h2 n2 m2
  case h_4 hx0 hx1 hx2 =>
    have hne : xOf op ≠ 0 ∧ xOf op ≠ 1 ∧ xOf op ≠ 2 := ⟨hx0, hx1, hx2⟩
    have hlt := xOf_lt op
    exact decodeX3_ignores (by omega) h3 h2 n2 m2
  all_goals rfl

/-- Three bytes are enough for any instruction, and `decode` answers what `decodeBytes` does on them. -/
theorem decode_three (op n1 n2 : Byte) : ∃ rest, decode [op, n1, n2] = .ok (decodeBytes op n1 n2, rest) := by
  unfold decode opcodeLength
  by_cases h3 : hasThreeBytes op = true
  · exact ⟨[], by simp [h3]⟩
  · have h3 : hasThreeBytes op = false := by simpa using h3
    by_cases h2 : hasTwoBytes op = true
    · exact ⟨[n2], by simp [h3, h2, decodeBytes_ignores h3 (fun _ => rfl) n2 0#8]⟩
    · rw [decodeBytes_ignores (m1 := 0#8) h3 (absurd · h2) n2 0#8]
      exact ⟨[n1, n2], by simp [h3, h2]⟩

/-! ### No bytes decode to the row of 0xCB alone (rule R152) -/

theorem family_reg8_ne_cb_page (r : Reg8) (n : Byte) :
    Family.ldRN r n ≠ .cb_page ∧ Family.ldRM r ≠ .cb_page ∧ Family.ldMR r ≠ .cb_page ∧ Family.incR r ≠ .cb_page ∧
      Family.decR r ≠ .cb_page := by
  cases r <;> simp [Family.ldRN, Family.ldRM, Family.ldMR, Family.incR, Family.decR]

theorem family_ldRR_ne_cb_page (y z : Reg8) : Family.ldRR y z ≠ .cb_page := by
  cases y <;> cases z <;> simp [Family.ldRR]

theorem family_rp_ne_cb_page (p : Rp) (nn : Word) :
    Family.ldRp p nn ≠ .cb_page ∧ Family.addHl p ≠ .cb_page ∧ Family.incRp p ≠ .cb_page ∧ Family.decRp p ≠ .cb_page := by
  cases p <;> simp [Family.ldRp, Family.addHl, Family.incRp, Family.decRp]

theorem family_rp2_ne_cb_page (p : Rp2) : Family.push p ≠ .cb_page ∧ Family.pop p ≠ .cb_page := by
  cases p <;> simp [Family.push, Family.pop]

theorem family_cond_ne_cb_page (k : Cond) (n : Byte) (nn : Word) :
    Family.jpCc k nn ≠ .cb_page ∧ Family.jrCc k n ≠ .cb_page ∧ Family.callCc k nn ≠ .cb_page ∧
      Family.retCc k ≠ .cb_page := by
  cases k <;> simp [Family.jpCc, Family.jrCc, Family.callCc, Family.retCc]

theorem family_alu_ne_cb_page (op : AluOp) (z : Reg8) (n : Byte) :
    Family.aluR op z ≠ .cb_page ∧ Family.aluM op ≠ .cb_page ∧ Family.aluN op n ≠ .cb_page := by
  cases op <;> cases z <;> simp [Family.aluR, Family.aluM, Family.aluN]

theorem family_rot_ne_cb_page (op : RotOp) (z : Reg8) :
    Family.rotR op z ≠ .cb_page ∧ Family.rotM op ≠ .cb_page := by
  cases op <;> cases z <;> simp [Family.rotR, Family.rotM]

theorem family_oct_ne_cb_page (b : Oct) :
    Family.bitM b ≠ .cb_page ∧ Family.resM b ≠ .cb_page ∧ Family.setM b ≠ .cb_page ∧ Family.rst b ≠ .cb_page := by
  cases b <;> simp [Family.bitM, Family.resM, Family.setM, Family.rst]

theorem family_bits_ne_cb_page (b : Oct) (z : Reg8) :
    Family.bitR b z ≠ .cb_page ∧ Family.resR b z ≠ .cb_page ∧ Family.setR b z ≠ .cb_page := by
  cases b <;> cases z <;> simp [Family.bitR, Family.resR, Family.setR]

theorem withR8_ne_cb_page {reg : Reg8 → Instr} {mem : Instr} (sel : Nat) (hreg : ∀ r, reg r ≠ .cb_page)
    (hmem : mem ≠ .cb_page) : withR8 sel reg mem ≠ .cb_page := by
  unfold withR8
  split
  · exact hreg _
  · exact hmem

theorem decodeExt_ne_cb_page (ext : Byte) : decodeExt ext ≠ .cb_page := by
  obtain ⟨hbit, hres, hset, -⟩ := family_oct_ne_cb_page (octOf (yOf ext))
  unfold decodeExt
  split
  · exact withR8_ne_cb_page _ (fun r => (family_rot_ne_cb_page _ r).1) (family_rot_ne_cb_page _ .a).2
  · exact withR8_ne_cb_page _ (fun r => (family_bits_ne_cb_page _ r).1) hbit
  · exact withR8_ne_cb_page _ (fun r => (family_bits_ne_cb_page _ r).2.1) hres
  · exact withR8_ne_cb_page _ (fun r => (family_bits_ne_cb_page _ r).2.2) hset

theorem decodeX0_ne_cb_page (op n1 n2 : Byte) : decodeX0 op n1 n2 ≠ .cb_page := by
  obtain ⟨hld, hadd, hinc, hdec⟩ := family_rp_ne_cb_page (rpOf (pOf op)) (join n2 n1)
  unfold decodeX0
  split
  case h_1 =>
    split
    case h_5 => exact (family_cond_ne_cb_page _ n1 0#16).2.1
    all_goals nofun
  case h_2 =>
    split
    · exact hld
    · exact hadd
  case h_4 =>
    split
    · exact hinc
    · exact hdec
  case h_5 => exact withR8_ne_cb_page _ (fun r => (family_reg8_ne_cb_page r n1).2.2.2.1) nofun
  case h_6 => exact withR8_ne_cb_page _ (fun r => (family_reg8_ne_cb_page r n1).2.2.2.2) nofun
  case h_7 => exact withR8_ne_cb_page _ (fun r => (family_reg8_ne_cb_page r n1).1) nofun
  all_goals split <;> nofun

theorem decodeX1_ne_cb_page (op : Byte) : decodeX1 op ≠ .cb_page := by
  unfold decodeX1
  split
  · exact family_ldRR_ne_cb_page _ _
  · exact (family_reg8_ne_cb_page _ 0#8).2.1
  · exact (family_reg8_ne_cb_page _ 0#8).2.2.1
  · nofun

theorem decodeX3_ne_cb_page (op n1 n2 : Byte) : decodeX3 op n1 n2 ≠ .cb_page := by
  obtain ⟨hpush, hpop⟩ := family_rp2_ne_cb_page (rp2Of (pOf op))
  obtain ⟨hjp, -, hcall, hret⟩ := family_cond_ne_cb_page (ccOf (yOf op)) n1 (join n2 n1)
  unfold decodeX3
  split
  case h_1 =>
    split
    case h_5 => exact hret
    all_goals nofun
  case h_2 =>
    split
    case h_1 => exact hpop
    all_goals nofun
  case h_3 =>
    split
    case h_5 => exact hjp
    all_goals nofun
  case h_4 =>
    split
    case h_2 => exact decodeExt_ne_cb_page n1
    all_goals nofun
  case h_5 =>
    split
    case h_5 => exact hcall
    all_goals nofun
  case h_6 =>
    split
    case h_1 => exact hpush
    all_goals nofun
  case h_7 => exact (family_alu_ne_cb_page _ .a n1).2.2
  case h_8 => exact (family_oct_ne_cb_page _).2.2.2

theorem decodeBytes_ne_cb_page (op n1 n2 : Byte) : decodeBytes op n1 n2 ≠ .cb_page := by
  unfold decodeBytes
  split
  · exact decodeX0_ne_cb_page op n1 n2
  · exact decodeX1_ne_cb_page op
  · exact withR8_ne_cb_page _ (fun r => (family_alu_ne_cb_page _ r 0#8).1) (family_alu_ne_cb_page _ .a 0#8).2.1
  · exact decodeX3_ne_cb_page op n1 n2

theorem decodeBytes_wf (op n1 n2 : Byte) : (decodeBytes op n1 n2).wf = true :=
  decide_eq_true (decodeBytes_ne_cb_page op n1 n2)

/-! ### A step runs the decoded instruction (rules R24, R137, R451) -/

/-- A bit of `IE & IF` is a source enabled and pending (rule R443). -/
theorem pending_bit_iff (s : State) (n : Source) : bit (pending s.irq) n.bitIndex = true ↔ wanted s n := by
  cases n <;> simp [bit, pending, wanted, Source.bitIndex]

/-- No interrupt to take is no source selected (rules R446 to R448). -/
theorem selectSource_none {s : State}
    (h : ¬ wanted s .vblank ∧ ¬ wanted s .status ∧ ¬ wanted s .timer ∧ ¬ wanted s .input) :
    selectSource (pending s.irq) = none := by
  simp only [← pending_bit_iff] at h
  obtain ⟨hvblank, hstatus, htimer, hinput⟩ := h
  exact (if_neg hvblank).trans ((if_neg hstatus).trans ((if_neg htimer).trans (if_neg hinput)))

/-- A running CPU with no interrupt to take executes the next instruction as it stands. -/
theorem cpuStep_executes {s : State} (hl : s.run.locked = false) (hh : s.run.halted = false) (hd : noDispatch s) :
    cpuStep s = executeNext s := by
  have hwoken : ({ s with run := { s.run with halted := false } } : State) = s := by rw [← hh]
  have hcheck : checkAndDispatch s = (s, false) := by
    rcases checkAndDispatch_cases s with ⟨-, h⟩ | ⟨-, -, h⟩ | ⟨n, -, hime, hsel, -⟩
    · exact h
    · rw [h, hwoken]
    · rcases hd with hoff | hnone
      · exact absurd (hoff.symm.trans hime) Bool.false_ne_true
      · exact absurd ((selectSource_none hnone).symm.trans hsel) nofun
  simp only [cpuStep, hl, hcheck, hh, Bool.false_eq_true, if_false]

/-- Settles O28: the three bytes at `PC` are enough for the decoder, and nothing else happens before the instruction. -/
theorem stepRunsTheDecodedInstruction : Obligations.StepRunsTheDecodedInstruction := by
  intro s i rest hl hh hd hdec
  have hfetch : i = fetchInstr s := by
    obtain ⟨r, hr⟩ := decode_three (memRead s s.regs.pc) (memRead s (s.regs.pc + 1#16)) (memRead s (s.regs.pc + 2#16))
    rw [hr] at hdec
    cases hdec
    rfl
  subst hfetch
  obtain ⟨t, ht, -⟩ := exec_runs (fetchInstr s) (advance s (fetchInstr s))
  refine ⟨decodeBytes_wf .., t, ht, step_next ?_⟩
  rw [cpuStep_executes hl hh hd, executeNext, ht]

end Sys2Proof.Machine
end

section
/-! PROOFS. Register pairs as views of their halves, and what reset leaves. -/

namespace Sys2Proof.Machine

/-! ### Register pairs (rule R22) -/

theorem setAf_af (g : Regs) (v : Word) : (g.setAf v).af = v &&& 0xFFF0#16 := by
  calc join (hiByte v) (loByte v &&& 0xF0#8)
      = join (hiByte v &&& 0xFF#8) (loByte v &&& 0xF0#8) := by
        rw [show hiByte v &&& 0xFF#8 = hiByte v from BitVec.and_allOnes]
    _ = v &&& 0xFFF0#16 := by
        rw [← join_and, join_hi_lo]
        rfl

/-- Settles O6: a pair is its halves joined, and joining the halves of a word gives it back (`join_hi_lo`). -/
theorem pairsAreViewsOfTheirHalves : Obligations.PairsAreViewsOfTheirHalves := by
  intro g v
  refine ⟨rfl, rfl, rfl, rfl, rfl, rfl, rfl, rfl, fun p hp => ?_, setAf_af g v, fun p => getRp_setRp g p v⟩
  cases p
  case af => exact absurd rfl hp
  all_goals exact join_hi_lo v

/-! ### Reset (rules R66, R490, R491) -/

theorem arrayOk_nil (w n : Nat) : ArrayOk (w := w) n [] := ⟨rfl, rfl⟩

/-- The arrays of the reset table are empty, so only the image matters. -/
theorem boot_standard_arrays {c : Config} (hc : c.wf = true) : ArraysOk (State.boot c (.standard c.gen)) := by
  simp only [Config.wf, Bool.and_eq_true] at hc
  obtain ⟨hrom, -⟩ := hc
  exact ⟨hrom, arrayOk_nil .., arrayOk_nil .., arrayOk_nil .., arrayOk_nil .., arrayOk_nil .., arrayOk_nil ..,
    arrayOk_nil .., arrayOk_nil .., nofun⟩

theorem one_lt_romBanks (c : Config) : 1 < romBanks c := by
  have hpos := Nat.two_pow_pos c.romCode.val
  unfold romBanks
  omega

/-- The reset table meets every invariant on a legal configuration. Only the registers differ by generation, and only
the cartridge and the arrays are judged by the configuration. -/
theorem boot_standard_inv {c : Config} (hc : c.wf = true) : Inv (State.boot c (.standard c.gen)) := by
  have hflags (g : Gen) : (Regs.standard g).f &&& 0x0F#8 = 0#8 := by cases g <;> rfl
  have hbanks : BanksOk (State.boot c (.standard c.gen)) :=
    ⟨one_lt_romBanks c, fun _ => (by decide : (0#4).toNat < 4), fun _ => rfl, fun _ => rfl⟩
  have hdevices : LcdOk State.reset ∧ DmaOk State.reset ∧ TimerOk State.reset := by decide
  obtain ⟨hlcd, hdma, htim⟩ := hdevices
  exact ⟨hflags c.gen, boot_standard_arrays hc, hbanks, hlcd, hdma, htim, fun _ => ⟨rfl, rfl, rfl⟩⟩

/-- Settles O59: the reset state is `State.boot` on one legal configuration. -/
theorem resetMeetsTheInvariants : Obligations.ResetMeetsTheInvariants :=
  ⟨boot_standard_inv (c := .scenario) (by decide), fun _ hc => boot_standard_inv hc⟩

theorem boot_regs_gen {c : Config} {g : Gen} (hg : c.gen = g) :
    (State.boot c (.standard c.gen)).regs = .standard g := by
  rw [hg]
  rfl

/-- The registers of rule R66 that exist on generation 2 only. -/
theorem boot_registers_gen2 {c : Config} (hg : c.gen = .two) :
    let s := State.boot c (.standard c.gen)
    memRead s 0xFF4D#16 = 0x7E#8 ∧ memRead s 0xFF4F#16 = 0xFE#8 ∧ memRead s 0xFF70#16 = 0xF8#8 ∧
      memRead s 0xFF55#16 = 0xFF#8 ∧ memRead s 0xFF68#16 = 0x40#8 ∧ memRead s 0xFF6A#16 = 0x40#8 ∧
      memRead s 0xFF6C#16 = 0xFE#8 := by
  have hkey1 : 0#1 ++ 0x3F#6 ++ 0#1 = 0x7E#8 := by decide
  have hlow : 0x7F#7 ++ 0#1 = 0xFE#8 := by decide
  have hsvbk : 0x1F#5 ++ 0#3 = 0xF8#8 := by decide
  have hhdma5 : 1#1 ++ (0#8 - 1#8).extractLsb' 0 7 = 0xFF#8 := by decide
  have hindex : 0#1 ++ 1#1 ++ 0#6 = 0x40#8 := by decide
  rcases c with ⟨gen⟩
  cases hg
  exact ⟨hkey1, hlow, hsvbk, hhdma5, hindex, hindex, hlow⟩

/-- Settles O60: the reset table, and its registers read back through the Bus with their fixed bits. -/
theorem resetValues : Obligations.ResetValues := by
  intro c
  have hiflag : 7#3 ++ 1#5 = 0xE1#8 := by decide
  have hstat : 1#1 ++ 0#4 ++ 1#1 ++ 2#2 = 0x86#8 := by decide
  have hp1 : p1Read { select := 3#2, inputMask := 0x00#8 } = 0xFF#8 := by decide
  have hdiv : hiByte 0xAB00#16 = 0xAB#8 := by decide
  have htac : 0x1F#5 ++ 0#3 = 0xF8#8 := by decide
  refine ⟨boot_regs_gen, boot_regs_gen, rfl, rfl, rfl, rfl, rfl, rfl, rfl, rfl, hiflag, hstat, rfl, rfl, rfl, rfl, rfl,
    hp1, ?_, hdiv, htac, rfl, rfl, rfl, rfl, rfl, fun hg => ?_, fun k => ⟨rfl, rfl, rfl, rfl, rfl, rfl, rfl, rfl⟩, rfl,
    fun _ => rfl⟩
  · simp only [List.forall_mem_cons]
    exact ⟨rfl, rfl, rfl, rfl, rfl, rfl, rfl, rfl, List.forall_mem_nil _⟩
  · obtain ⟨hkey1, hvbk, hsvbk, hhdma5, hbcps, hocps, hopri⟩ := boot_registers_gen2 hg
    exact ⟨hkey1, hvbk, hsvbk, hhdma5, hbcps, hocps, hopri, rfl, rfl, rfl, rfl⟩

end Sys2Proof.Machine
end

section
/-! PROOFS. The regions of the address space and the mappers: where an address lands, what a write below 0x8000 does. -/

namespace Sys2Proof.Machine

/-! ### Where an address lands (rule R71) -/

section Regions

variable {s : State} {a : Word}

theorem place_rom (h : a.toNat < 0x8000) : ∃ k, place s a = .rom k := by
  unfold place
  split
  · exact ⟨_, rfl⟩
  · exact ⟨_, rfl⟩

theorem place_rom_fixed (h : a.toNat < 0x4000) : place s a = .rom a.toNat := by
  unfold place
  rw [if_pos h]

theorem place_rom_banked (h : 0x4000 ≤ a.toNat) (h' : a.toNat < 0x8000) :
    place s a = .rom (s.cart.romBank.toNat * 0x4000 + (a.toNat - 0x4000)) := by
  unfold place
  rw [if_neg (by omega), if_pos h']

theorem place_vram (h : 0x8000 ≤ a.toNat) (h' : a.toNat < 0xA000) :
    place s a = .vram (vramBank s * 0x2000 + (a.toNat - 0x8000)) := by
  unfold place
  rw [if_neg (by omega), if_neg (by omega), if_pos h']

theorem place_eram (h : 0xA000 ≤ a.toNat) (h' : a.toNat < 0xC000) :
    place s a = if eramOn s then .eram (eramCell s a.toNat) else .nowhere := by
  unfold place
  rw [if_neg (by omega), if_neg (by omega), if_neg (by omega), if_pos h']

theorem place_wram (h : 0xC000 ≤ a.toNat) (h' : a.toNat < 0xE000) : place s a = .wram (wramCell s a.toNat) := by
  unfold place
  iterate 4 rw [if_neg (by omega)]
  rw [if_pos h']

theorem place_echo (h : 0xE000 ≤ a.toNat) (h' : a.toNat < 0xFE00) :
    place s a = .wram (wramCell s (a.toNat - 0x2000)) := by
  unfold place
  iterate 5 rw [if_neg (by omega)]
  rw [if_pos h']

theorem place_oam (h : 0xFE00 ≤ a.toNat) (h' : a.toNat < 0xFEA0) : place s a = .oam (a.toNat - 0xFE00) := by
  unfold place
  iterate 6 rw [if_neg (by omega)]
  rw [if_pos h']

theorem place_unusable (h : 0xFEA0 ≤ a.toNat) (h' : a.toNat < 0xFF00) : place s a = .nowhere := by
  unfold place
  iterate 7 rw [if_neg (by omega)]
  rw [if_pos h']

theorem place_page_of_le (h : 0xFF00 ≤ a.toNat) : place s a = .page (loByte a) := by
  unfold place
  iterate 8 rw [if_neg (by omega)]

/-- The echo region is work RAM 0x2000 below (rule R87). -/
theorem place_echo_eq (h : 0xE000 ≤ a.toNat) (h' : a.toNat < 0xFE00) : place s a = place s (a - 0x2000#16) := by
  have hsub : (a - 0x2000#16).toNat = a.toNat - 0x2000 := by bv_omega
  rw [place_echo h h', place_wram (by omega) (by omega), hsub]

end Regions

theorem vramBank_eq (s : State) : vramBank s = if s.cfg.gen = .two then s.ram.vramBank.toNat else 0 := by
  unfold vramBank
  cases s.cfg.gen <;> rfl

theorem wramBank_eq (s : State) :
    wramBank s = if s.cfg.gen = .two ∧ s.ram.wramSel ≠ 0#3 then s.ram.wramSel.toNat else 1 := by
  unfold wramBank
  cases s.cfg.gen
  · rfl
  · by_cases h : s.ram.wramSel = 0#3 <;> simp [h]

theorem eramOn_iff (s : State) : eramOn s = true ↔ s.cart.ramEnable = true ∧ 0 < ramBanks s.cfg := by
  simp [eramOn]

theorem wramCell_low (s : State) {n : Nat} (h : n < 0xD000) : wramCell s n = n - 0xC000 := if_pos h

theorem wramCell_banked (s : State) {n : Nat} (h : 0xD000 ≤ n) :
    wramCell s n = wramBank s * 0x1000 + (n - 0xD000) := if_neg (Nat.not_lt.mpr h)

/-- Settles O33: the place of the address decides both the read and the write. -/
theorem accessesByRegion : Obligations.AccessesByRegion := by
  intro s a v n r vbank wbank cell
  have hvbank : vbank = vramBank s := (vramBank_eq s).symm
  have hwbank : wbank = wramBank s := (wramBank_eq s).symm
  rw [hvbank, hwbank]
  refine ⟨fun h => ?_, fun h h' => ?_, fun h h' => ?_, fun h h' hon hbanks => ?_, fun h h' hoff => ?_, fun h h' => ?_,
    fun h h' => ?_, fun h h' => ?_, fun h h' => ?_, fun h h' => ?_⟩
  · rw [memRead, place_rom_fixed h]
  · rw [memRead, place_rom_banked h h']
  · rw [memRead, memWrite, place_vram h h']
    exact ⟨rfl, rfl⟩
  · rw [memRead, memWrite, place_eram h h', if_pos ((eramOn_iff s).mpr ⟨hon, hbanks⟩)]
    exact ⟨rfl, rfl⟩
  · have hnot : ¬ eramOn s = true := by
      rw [eramOn_iff]
      rintro ⟨hon, hbanks⟩
      rcases hoff with hoff | hnone
      · exact Bool.false_ne_true (hoff.symm.trans hon)
      · omega
    rw [memRead, memWrite, place_eram h h', if_neg hnot]
    exact ⟨rfl, rfl⟩
  · rw [memRead, memWrite, place_wram h (by omega), wramCell_low s h']
    exact ⟨rfl, rfl⟩
  · rw [memRead, memWrite, place_wram (by omega) h', wramCell_banked s h]
    exact ⟨rfl, rfl⟩
  · rw [memRead, memRead, memWrite, memWrite, ← place_echo_eq h h', place_echo h h']
    exact ⟨rfl, rfl⟩
  · rw [memRead, memWrite, place_oam h h']
    exact ⟨rfl, rfl⟩
  · rw [memRead, memWrite, place_unusable h h']
    exact ⟨rfl, rfl⟩

/-! ### ROM and the configuration (rules R30, R73, R110) -/

theorem memWrite_mapper {s : State} {a : Word} (h : a.toNat < 0x8000) (w : Byte) :
    memWrite s a w = mapperWrite s a w := by
  obtain ⟨k, hk⟩ := place_rom (s := s) h
  rw [memWrite, hk]

theorem cfg_kept (c : Config) : Kept (fun u => u.cfg = c) where
  regs _ _ hu _ := hu
  run _ _ hu _ := hu
  write u a v hu := (memWrite_cfg u a v).trans hu
  placed _ _ _ _ _ _ hu := hu
  render u hu := (shown_renderLine u).cfg.trans hu
  present _ hu := hu
  hblank u hu := (shown_hblankDma u).cfg.trans hu
  timed _ _ _ _ _ hu _ := hu
  offered _ _ _ _ hu := hu

/-- Settles O35: a write below 0x8000 is the mapper's, and every effect of a step keeps the configuration. -/
theorem romNeverChanges : Obligations.RomNeverChanges := by
  refine ⟨fun s a v h => ?_, memWrite_cfg, fun s t h => (cfg_kept s.cfg).step rfl h⟩
  obtain ⟨c, hc⟩ := mapperWrite_shape s a v
  have heram : (mapperWrite s a v).cart.eram = s.cart.eram := mapperWrite_eram s a v
  rw [hc] at heram
  exact ⟨c, (memWrite_mapper h v).trans hc, heram⟩

/-! ### The four mappers (rules R110 to R118) -/

/-- The two low bits of a byte in a `ram_bank` of four (rule R113). -/
theorem low_two_bits (w : Byte) : BitVec.ofNat 4 (w.toNat &&& 0x03) = w.setWidth 4 &&& 3#4 := by
  apply BitVec.eq_of_toNat_eq
  have hand : w.toNat &&& 3 ≤ 3 := Nat.and_le_right
  have hlow (n : Nat) : n &&& 3 = n % 4 := Nat.and_two_pow_sub_one_eq_mod n 2
  simp only [BitVec.toNat_and, BitVec.toNat_setWidth, BitVec.toNat_ofNat, hlow, Nat.reducePow, Nat.reduceMod]
  omega

theorem low_nibble (w : Byte) : w.extractLsb' 0 4 = w.setWidth 4 := by
  apply BitVec.eq_of_toNat_eq
  simp

section Ranges

variable {s : State} {a : Word} {w : Byte}

theorem mapperWrite_variant1 (h : s.cfg.mapper = .variant1) : mapperWrite s a w = mapper1Write s a w := by
  rw [mapperWrite, h]

theorem mapperWrite_variant2 (h : s.cfg.mapper = .variant2) : mapperWrite s a w = mapper2Write s a w := by
  rw [mapperWrite, h]

theorem mapperWrite_variant3 (h : s.cfg.mapper = .variant3) : mapperWrite s a w = mapper3Write s a w := by
  rw [mapperWrite, h]

theorem mapperWrite_variant4 (h : s.cfg.mapper = .variant4) : mapperWrite s a w = mapper4Write s a w := by
  rw [mapperWrite, h]

theorem mapper1Write_romBank (h : 0x2000 ≤ a.toNat) (h' : a.toNat < 0x4000) : mapper1Write s a w =
    setRomBank s ((s.cart.romBank.toNat &&& 0x60) ||| zeroToOne (w.toNat &&& 0x1F)) := by
  unfold mapper1Write
  rw [if_neg (by omega), if_pos h']

theorem mapper2Write_romBank (h : a.toNat < 0x4000) (h8 : a.getLsbD 8 = true) :
    mapper2Write s a w = setRomBank s (zeroToOne (w.toNat &&& 0x0F)) := by
  unfold mapper2Write
  rw [if_pos h, if_pos (show bit a 8 = true from h8)]

theorem mapper3Write_romBank (h : 0x2000 ≤ a.toNat) (h' : a.toNat < 0x4000) :
    mapper3Write s a w = setRomBank s (zeroToOne (w.toNat &&& 0x7F)) := by
  unfold mapper3Write
  rw [if_neg (by omega), if_pos h']

theorem mapper4Write_romBank (h : 0x2000 ≤ a.toNat) (h' : a.toNat < 0x3000) :
    mapper4Write s a w = setRomBank s ((s.cart.romBank.toNat &&& 0x100) ||| w.toNat) := by
  unfold mapper4Write
  rw [if_neg (by omega), if_pos h']

theorem memWrite_romBank_variant1 (hm : s.cfg.mapper = .variant1) (h : 0x2000 ≤ a.toNat) (h' : a.toNat < 0x4000) :
    (memWrite s a w).cart.romBank = romMask s.cfg
      ((s.cart.romBank.toNat &&& 0x60) ||| zeroToOne (w.toNat &&& 0x1F)) := by
  rw [memWrite_mapper (by omega), mapperWrite_variant1 hm, mapper1Write_romBank h h']
  rfl

theorem memWrite_romBank_variant2 (hm : s.cfg.mapper = .variant2) (h : a.toNat < 0x4000) (h8 : a.getLsbD 8 = true) :
    (memWrite s a w).cart.romBank = romMask s.cfg (zeroToOne (w.toNat &&& 0x0F)) := by
  rw [memWrite_mapper (by omega), mapperWrite_variant2 hm, mapper2Write_romBank h h8]
  rfl

theorem memWrite_romBank_variant3 (hm : s.cfg.mapper = .variant3) (h : 0x2000 ≤ a.toNat) (h' : a.toNat < 0x4000) :
    (memWrite s a w).cart.romBank = romMask s.cfg (zeroToOne (w.toNat &&& 0x7F)) := by
  rw [memWrite_mapper (by omega), mapperWrite_variant3 hm, mapper3Write_romBank h h']
  rfl

theorem memWrite_romBank_variant4 (hm : s.cfg.mapper = .variant4) (h : 0x2000 ≤ a.toNat) (h' : a.toNat < 0x3000) :
    (memWrite s a w).cart.romBank = romMask s.cfg
      ((s.cart.romBank.toNat &&& 0x100) ||| (w.toNat &&& 0xFF)) := by
  have hbyte : w.toNat &&& 0xFF = w.toNat :=
    (Nat.and_two_pow_sub_one_eq_mod w.toNat 8).trans (Nat.mod_eq_of_lt w.isLt)
  rw [memWrite_mapper (by omega), mapperWrite_variant4 hm, mapper4Write_romBank h h', hbyte]
  rfl

end Ranges

/-- Settles O36: the range of the address, and for variant 2 its bit 8, select the arm of the configured mapper. -/
theorem mapperWriteRules : Obligations.MapperWriteRules := by
  intro s a w hlow n c mask put ramEnable rom low
  rw [memWrite_mapper hlow]
  refine ⟨fun hm => ?_, fun hm => ?_, fun hm => ?_, fun hm => ?_⟩
  · rw [mapperWrite_variant1 hm]
    refine ⟨fun h => if_pos h, mapper1Write_romBank, fun h h' hb => ?_, fun h h' hb => ?_, fun h h0 => ?_,
      fun h h0 => ?_⟩
    all_goals
      unfold mapper1Write
      rw [if_neg (by omega), if_neg (by omega)]
    · rw [if_pos h', if_pos hb, low_two_bits]
    · rw [if_pos h', if_neg (Bool.eq_false_iff.mp hb)]
      rfl
    · rw [if_neg (by omega), show bit w 0 = true from h0]
      rfl
    · rw [if_neg (by omega), show bit w 0 = false from h0]
      rfl
  · rw [mapperWrite_variant2 hm]
    refine ⟨fun h h8 => ?_, mapper2Write_romBank, fun h h' h8 => ?_, fun h => if_neg (Nat.not_lt.mpr h)⟩
    all_goals
      unfold mapper2Write
      rw [if_pos (by omega), if_neg (show ¬ bit a 8 = true from Bool.eq_false_iff.mp h8)]
    · exact if_pos h
    · exact if_neg (Nat.not_lt.mpr h)
  · rw [mapperWrite_variant3 hm]
    refine ⟨fun h => if_pos h, mapper3Write_romBank, fun h h' => ?_, fun h => ?_⟩
    all_goals
      unfold mapper3Write
      rw [if_neg (by omega), if_neg (by omega)]
    · rw [if_pos h', low_nibble]
    · exact if_neg (Nat.not_lt.mpr h)
  · rw [mapperWrite_variant4 hm]
    refine ⟨fun h => if_pos h, mapper4Write_romBank, fun h h' => ?_, fun h h' => ?_, fun h => ?_⟩
    all_goals
      unfold mapper4Write
      rw [if_neg (by omega), if_neg (by omega)]
    · exact if_pos h'
    · rw [if_neg (by omega), if_pos h', low_nibble]
    · rw [if_neg (by omega), if_neg (by omega)]

/-! ### The ROM bank register (rule R118) -/

theorem romBanks_eq (c : Config) : romBanks c = 2 ^ (c.romCode.val + 1) := (Nat.pow_succ').symm

theorem and_romMask (c : Config) (n : Nat) : n &&& (romBanks c - 1) = n % romBanks c := by
  rw [romBanks_eq, Nat.and_two_pow_sub_one_eq_mod]

/-- There are at most 512 banks, so the nine bits of the register hold any masked bank. -/
theorem romMask_toNat (c : Config) (n : Nat) : (romMask c n).toNat = n % romBanks c := by
  have hcount : romBanks c ≤ 2 ^ 9 := by
    rw [romBanks_eq]
    exact Nat.pow_le_pow_right two_pos c.romCode.isLt
  have hmod := Nat.mod_lt n (Nat.zero_lt_of_lt (one_lt_romBanks c))
  rw [romMask, and_romMask, BitVec.toNat_ofNat, Nat.mod_eq_of_lt (by omega)]

theorem romMask_one (c : Config) : romMask c 1 = 1#9 :=
  BitVec.eq_of_toNat_eq ((romMask_toNat c 1).trans (Nat.mod_eq_of_lt (one_lt_romBanks c)))

theorem romMask_eq_zero {c : Config} {n : Nat} (h : n % romBanks c = 0) : romMask c n = 0#9 :=
  BitVec.eq_of_toNat_eq ((romMask_toNat c n).trans h)

/-- A written 0 selects bank 1 (rule R118). -/
theorem romMask_zeroToOne_zero (c : Config) {n : Nat} (h : n = 0) : romMask c (zeroToOne n) = 1#9 := by
  rw [h]
  exact romMask_one c

/-- The zero test comes before the mask: a value whose bits the mask all loses selects bank 0 (rule R118). -/
theorem romMask_zeroToOne_lost {c : Config} {n : Nat} (hne : n ≠ 0) (h : n % romBanks c = 0) :
    romMask c (zeroToOne n) = 0#9 := by
  rw [zeroToOne, if_neg hne]
  exact romMask_eq_zero h

/-- The mask keeps a field that fits below it, whatever stands above the field. -/
theorem romMask_low_field (c : Config) {f hi lo : Nat} (hhi : 2 ^ f ∣ hi) (hlo : lo < 2 ^ f) (hbank : lo < romBanks c) :
    (romMask c (hi ||| lo)).toNat % 2 ^ f = lo := by
  obtain ⟨q, rfl⟩ := hhi
  rw [romBanks_eq] at hbank
  rw [romMask_toNat, romBanks_eq, ← Nat.two_pow_add_eq_or_of_lt hlo]
  rcases Nat.le_total (c.romCode.val + 1) f with hle | hle
  · rw [Nat.add_mod, Nat.mod_eq_zero_of_dvd (Dvd.dvd.mul_right (Nat.pow_dvd_pow 2 hle) q), Nat.zero_add, Nat.mod_mod,
      Nat.mod_eq_of_lt hbank, Nat.mod_eq_of_lt hlo]
  · rw [Nat.mod_mod_of_dvd _ (Nat.pow_dvd_pow 2 hle), Nat.mul_add_mod, Nat.mod_eq_of_lt hlo]

/-- A field the mask loses lies above the mask, and so does all that stands above the field. -/
theorem romMask_lost_field {c : Config} {f hi lo : Nat} (hhi : 2 ^ f ∣ hi) (hlo : lo < 2 ^ f) (hne : lo ≠ 0)
    (hlost : lo % romBanks c = 0) : romMask c (hi ||| lo) = 0#9 := by
  obtain ⟨q, rfl⟩ := hhi
  have hle : romBanks c ≤ lo := Nat.le_of_dvd (Nat.pos_of_ne_zero hne) (Nat.dvd_of_mod_eq_zero hlost)
  apply romMask_eq_zero
  rw [romBanks_eq] at hle hlost ⊢
  have hdvd : 2 ^ (c.romCode.val + 1) ∣ 2 ^ f :=
    Nat.pow_dvd_pow 2 (Nat.le_of_lt ((Nat.pow_lt_pow_iff_right one_lt_two).mp (Nat.lt_of_le_of_lt hle hlo)))
  rw [← Nat.two_pow_add_eq_or_of_lt hlo, Nat.add_mod, Nat.mod_eq_zero_of_dvd (Dvd.dvd.mul_right hdvd q), hlost,
    Nat.zero_mod]

theorem two_pow_dvd_and (n : Nat) {f m : Nat} (h : m % 2 ^ f = 0) : 2 ^ f ∣ n &&& m := by
  apply Nat.dvd_of_mod_eq_zero
  rw [Nat.and_mod_two_pow, h, Nat.and_zero]

/-- A write leaves the ROM bank of `s` as it was or below `ROM_BANKS`. -/
abbrev RomBankOk (s t : State) : Prop :=
  t.cart.romBank = s.cart.romBank ∨ t.cart.romBank.toNat < romBanks s.cfg

theorem setRomBank_romBankOk (s : State) (n : Nat) : RomBankOk s (setRomBank s n) := .inr (romMask_lt s.cfg n)

theorem mapper1Write_romBankOk (s : State) (a : Word) (w : Byte) : RomBankOk s (mapper1Write s a w) := by
  unfold mapper1Write
  split
  · exact .inl rfl
  split
  · exact setRomBank_romBankOk s _
  split
  · split
    · exact .inl rfl
    · exact setRomBank_romBankOk s _
  · exact .inl rfl

theorem mapper2Write_romBankOk (s : State) (a : Word) (w : Byte) : RomBankOk s (mapper2Write s a w) := by
  unfold mapper2Write
  split
  · split
    · exact setRomBank_romBankOk s _
    · split <;> exact .inl rfl
  · exact .inl rfl

theorem mapper3Write_romBankOk (s : State) (a : Word) (w : Byte) : RomBankOk s (mapper3Write s a w) := by
  unfold mapper3Write
  split
  · exact .inl rfl
  split
  · exact setRomBank_romBankOk s _
  · split <;> exact .inl rfl

theorem mapper4Write_romBankOk (s : State) (a : Word) (w : Byte) : RomBankOk s (mapper4Write s a w) := by
  unfold mapper4Write
  split
  · exact .inl rfl
  split
  · exact setRomBank_romBankOk s _
  split
  · exact setRomBank_romBankOk s _
  · split <;> exact .inl rfl

theorem mapperWrite_romBankOk (s : State) (a : Word) (w : Byte) : RomBankOk s (mapperWrite s a w) := by
  unfold mapperWrite
  split
  · exact mapper1Write_romBankOk s a w
  · exact mapper2Write_romBankOk s a w
  · exact mapper3Write_romBankOk s a w
  · exact mapper4Write_romBankOk s a w

theorem memWrite_romBankOk (s : State) (a : Word) (w : Byte) : RomBankOk s (memWrite s a w) := by
  unfold memWrite
  cases place s a
  case rom => exact mapperWrite_romBankOk s a w
  case page i => exact .inl (congrArg Cart.romBank (pageWrite_cart s i w))
  all_goals exact .inl rfl

/-- Settles O37: the bank register holds `romMask` of a field under the kept bits, and a 0 in the field becomes 1 on
variants 1 to 3. -/
theorem bankZeroIsRedirectedOnThreeMappers : Obligations.BankZeroIsRedirectedOnThreeMappers := by
  intro s a w n old new written lost
  have hlost {field : Nat} (h : lost field) : written field % romBanks s.cfg = 0 := (and_romMask ..).symm.trans h.2
  have hbanks := one_lt_romBanks s.cfg
  refine ⟨memWrite_romBankOk s a w, fun hm h h' => ?_, fun hm h h8 => ?_, fun hm h h' => ?_, fun hm h h' => ?_⟩
  · have hnew : new = romMask s.cfg ((old &&& 0x60) ||| zeroToOne (written 0x1F)) :=
      memWrite_romBank_variant1 hm h h'
    have hkept : 2 ^ 5 ∣ old &&& 0x60 := two_pow_dvd_and old rfl
    rw [hnew]
    refine ⟨fun h0 => ?_, fun h1 => ?_⟩
    · rw [h0]
      exact ⟨romMask_low_field s.cfg hkept (by decide) hbanks, fun hold => by rw [hold]; exact romMask_one s.cfg⟩
    · rw [zeroToOne, if_neg h1.1]
      exact romMask_lost_field hkept (Nat.lt_succ_of_le Nat.and_le_right) h1.1 (hlost h1)
  · have hnew : new = romMask s.cfg (zeroToOne (written 0x0F)) := memWrite_romBank_variant2 hm h h8
    rw [hnew]
    exact ⟨romMask_zeroToOne_zero s.cfg, fun h1 => romMask_zeroToOne_lost h1.1 (hlost h1)⟩
  · have hnew : new = romMask s.cfg (zeroToOne (written 0x7F)) := memWrite_romBank_variant3 hm h h'
    rw [hnew]
    exact ⟨romMask_zeroToOne_zero s.cfg, fun h1 => romMask_zeroToOne_lost h1.1 (hlost h1)⟩
  · have hnew : new = romMask s.cfg ((old &&& 0x100) ||| written 0xFF) := memWrite_romBank_variant4 hm h h'
    have hkept : 2 ^ 8 ∣ old &&& 0x100 := two_pow_dvd_and old rfl
    rw [hnew]
    refine ⟨fun h0 => ?_, fun h1 => ?_⟩
    · rw [h0]
      exact ⟨romMask_low_field s.cfg hkept (by decide) (by omega),
        fun hold => by rw [hold]; exact romMask_eq_zero (Nat.zero_mod _)⟩
    · exact romMask_lost_field hkept (Nat.lt_succ_of_le Nat.and_le_right) h1.1 (hlost h1)

end Sys2Proof.Machine
end

section
/-! PROOFS. Storage: an address stands for one cell, a store changes that cell and nothing else. -/

namespace Sys2Proof.Machine

/-! ### The addresses behind a place (rule R71) -/

/-- The address `n` is one of those that stand for the place. -/
def Lands (s : State) (n : Nat) : Place → Prop
  | .rom _ => n < 0x8000
  | .vram k => 0x8000 ≤ n ∧ n < 0xA000 ∧ k = vramBank s * 0x2000 + (n - 0x8000)
  | .eram k => 0xA000 ≤ n ∧ n < 0xC000 ∧ k = eramCell s n
  | .wram k => 0xC000 ≤ n ∧ n < 0xE000 ∧ k = wramCell s n ∨ 0xE000 ≤ n ∧ n < 0xFE00 ∧ k = wramCell s (n - 0x2000)
  | .oam k => 0xFE00 ≤ n ∧ n < 0xFEA0 ∧ k = n - 0xFE00
  | .nowhere => 0xA000 ≤ n ∧ n < 0xC000 ∨ 0xFEA0 ≤ n ∧ n < 0xFF00
  | .page i => n = 0xFF00 + i.toNat

theorem place_lands (s : State) (a : Word) : Lands s a.toNat (place s a) := by
  have hlt := a.isLt
  unfold place
  split
  · show a.toNat < 0x8000
    omega
  split
  · assumption
  split
  · exact ⟨by omega, ‹_›, rfl⟩
  split
  · split
    · exact ⟨by omega, ‹_›, rfl⟩
    · exact .inl ⟨by omega, ‹_›⟩
  split
  · exact .inl ⟨by omega, ‹_›, rfl⟩
  split
  · exact .inr ⟨by omega, ‹_›, rfl⟩
  split
  · exact ⟨by omega, ‹_›, rfl⟩
  split
  · exact .inr ⟨by omega, ‹_›⟩
  · show a.toNat = 0xFF00 + (loByte a).toNat
    simp only [loByte, BitVec.extractLsb'_toNat, Nat.shiftRight_zero]
    omega

theorem lands_of_place {s : State} {a : Word} {p : Place} (h : place s a = p) : Lands s a.toNat p :=
  h ▸ place_lands s a

theorem wramBank_pos (s : State) : 0 < wramBank s := by
  unfold wramBank
  split
  · decide
  · split
    · decide
    case isFalse hne => exact Nat.pos_of_ne_zero fun h0 => hne (BitVec.eq_of_toNat_eq h0)

theorem wramCell_cases (s : State) (n : Nat) :
    n < 0xD000 ∧ wramCell s n = n - 0xC000 ∨ 0xD000 ≤ n ∧ wramCell s n = wramBank s * 0x1000 + (n - 0xD000) := by
  rcases Nat.lt_or_ge n 0xD000 with h | h
  · exact .inl ⟨h, wramCell_low s h⟩
  · exact .inr ⟨h, wramCell_banked s h⟩

theorem isStorage_page {s : State} {a : Word} {i : Byte} (h : isStorage s a = true) (hp : place s a = .page i) :
    pageReg s.cfg.gen i = .plain := by
  unfold isStorage at h
  rw [hp] at h
  exact of_decide_eq_true h

theorem not_isStorage_of_lt {s : State} {a : Word} (h : a.toNat < 0x8000) : isStorage s a = false := by
  obtain ⟨k, hk⟩ := place_rom (s := s) h
  rw [isStorage, hk]

/-- No bank ends with the cell another begins with. -/
theorem lands_succ_nowhere {s : State} {n : Nat} {p : Place} (h : Lands s n p) (h' : Lands s (n + 1) p)
    (hlow : 0x8000 ≤ n + 1) : p = .nowhere := by
  cases p <;> dsimp only [Lands, eramCell] at h h'
  case nowhere => rfl
  case wram =>
    have hbank := wramBank_pos s
    have hhere := wramCell_cases s n
    have hnext := wramCell_cases s (n + 1)
    have hhere' := wramCell_cases s (n - 0x2000)
    have hnext' := wramCell_cases s (n + 1 - 0x2000)
    omega
  all_goals omega

/-- Neighbouring addresses of storage are different cells. -/
theorem place_succ_ne {s : State} {a : Word} (h : isStorage s (a + 1#16) = true) : place s a ≠ place s (a + 1#16) := by
  intro heq
  have hlow : 0x8000 ≤ (a + 1#16).toNat := by
    by_contra hlt
    exact Bool.false_ne_true ((not_isStorage_of_lt (Nat.not_le.mp hlt)).symm.trans h)
  have hsucc : (a + 1#16).toNat = a.toNat + 1 := by bv_omega
  have hnext : Lands s (a.toNat + 1) (place s (a + 1#16)) := hsucc ▸ place_lands s (a + 1#16)
  have hnone := lands_succ_nowhere (lands_of_place heq) hnext (hsucc ▸ hlow)
  simp [isStorage, hnone] at h

/-! ### What a store changes (rule R80) -/

/-- `t` differs from `s` in the storage arrays only. -/
def ArraysOnly (s t : State) : Prop :=
  ∃ e v w o i, t = { s with
    cart := { s.cart with eram := e }, ram := { s.ram with vram := v, wram := w, oam := o, io := i } }

section

variable {s t u : State}

theorem ArraysOnly.trans (h : ArraysOnly s t) (k : ArraysOnly t u) : ArraysOnly s u := by
  obtain ⟨_, _, _, _, _, rfl⟩ := h
  obtain ⟨e, v, w, o, i, rfl⟩ := k
  exact ⟨e, v, w, o, i, rfl⟩

/-- The region table depends on the configuration and the bank selectors only. -/
theorem ArraysOnly.place (h : ArraysOnly s t) (a : Word) : place t a = place s a := by
  obtain ⟨_, _, _, _, _, rfl⟩ := h
  rfl

theorem ArraysOnly.isStorage (h : ArraysOnly s t) (a : Word) : isStorage t a = isStorage s a := by
  obtain ⟨_, _, _, _, _, rfl⟩ := h
  rfl

/-- A store to storage changes the arrays only. -/
theorem memWrite_arraysOnly {a : Word} (h : isStorage s a = true) (v : Byte) : ArraysOnly s (memWrite s a v) := by
  unfold memWrite
  cases hp : place s a with
  | rom => simp [isStorage, hp] at h
  | nowhere => simp [isStorage, hp] at h
  | page i =>
    simp only [pageWrite_plain (isStorage_page h hp)]
    exact ⟨_, _, _, _, _, rfl⟩
  | vram => exact ⟨_, _, _, _, _, rfl⟩
  | eram => exact ⟨_, _, _, _, _, rfl⟩
  | wram => exact ⟨_, _, _, _, _, rfl⟩
  | oam => exact ⟨_, _, _, _, _, rfl⟩

end

/-! ### Reading after a store (rule R80) -/

/-- A register of the page reads as before after a store to a plain byte. -/
theorem pageRead_plainWrite {s : State} {i : Byte} (h : pageReg s.cfg.gen i = .plain) (v j : Byte) :
    pageRead { s with ram := { s.ram with io := s.ram.io.write i.toNat v } } j = if j = i then v else pageRead s j := by
  by_cases hj : pageReg s.cfg.gen j = .plain
  · rw [pageRead_plain hj]
    refine (pageRead_plain ?_).trans ?_
    · exact hj
    · simp only [read_write, BitVec.toNat_inj]
  · rw [if_neg (fun he : j = i => hj (he ▸ h))]
    unfold pageRead
    cases hr : pageReg s.cfg.gen j
    case plain => exact absurd hr hj
    all_goals rfl

/-- Settles O34: the region table is as before, so the read looks at the same place, and `read_write` says what the
array of the stored cell answers there. -/
theorem readAfterWrite : Obligations.ReadAfterWrite := by
  intro s a b v h
  have hplace := (memWrite_arraysOnly h v).place b
  rw [memRead, memRead, hplace, memWrite]
  cases hp : place s a with
  | rom => simp [isStorage, hp] at h
  | nowhere => simp [isStorage, hp] at h
  | page i =>
    have hi := isStorage_page h hp
    cases place s b <;> simp [pageWrite_plain hi, pageRead_plainWrite hi]
  | vram =>
    cases place s b <;> simp [read_write]
    rfl
  | eram =>
    cases place s b <;> simp [read_write]
    rfl
  | wram =>
    cases place s b <;> simp [read_write]
    rfl
  | oam =>
    cases place s b <;> simp [read_write]
    rfl

/-! ### Reads that do not see the run state or the block DMA -/

theorem pageReg_key1 {g : Gen} {i : Byte} (h : pageReg g i = .key1) : i = 0x4D#8 := by
  unfold pageReg at h
  split at h
  case h_19 hi => exact BitVec.eq_of_toNat_eq hi
  all_goals cases g <;> nomatch h

theorem pageReg_hdma5 {g : Gen} {i : Byte} (h : pageReg g i = .hdma5) : i = 0x55#8 := by
  unfold pageReg at h
  split at h
  case h_25 hi => exact BitVec.eq_of_toNat_eq hi
  all_goals cases g <;> nomatch h

theorem eq_pageAddress {s : State} {a : Word} {i : Byte} (h : place s a = .page i) : a = pageAddress i :=
  BitVec.eq_of_toNat_eq ((lands_of_place h).trans (pageAddress_toNat i).symm)

/-- Only `KEY1` shows the run state (rule R44). -/
theorem memRead_withRun (s : State) (r : Run) (a : Word) (h : key1Read r = key1Read s.run ∨ a ≠ 0xFF4D#16) :
    memRead { s with run := r } a = memRead s a := by
  have hplace : place { s with run := r } a = place s a := rfl
  rw [memRead, memRead, hplace]
  cases hp : place s a
  case page i =>
    show pageRead { s with run := r } i = pageRead s i
    unfold pageRead
    cases hr : pageReg s.cfg.gen i
    case key1 =>
      rcases h with h | h
      · exact h
      · rw [eq_pageAddress hp, pageReg_key1 hr] at h
        exact absurd rfl h
    all_goals rfl
  all_goals rfl

/-- Of the block DMA only `HDMA5` shows anything (rules R47, R48). -/
theorem memRead_withDma (s : State) (d : Dma) (a : Word) (hport : d.port = s.dma.port) (h : a ≠ 0xFF55#16) :
    memRead { s with dma := d } a = memRead s a := by
  have hplace : place { s with dma := d } a = place s a := rfl
  rw [memRead, memRead, hplace]
  cases hp : place s a
  case page i =>
    show pageRead { s with dma := d } i = pageRead s i
    unfold pageRead
    cases hr : pageReg s.cfg.gen i
    case dma => exact hport
    case hdma5 =>
      rw [eq_pageAddress hp, pageReg_hdma5 hr] at h
      exact absurd rfl h
    all_goals rfl
  all_goals rfl

end Sys2Proof.Machine
end

section
/-! PROOFS. What `exec` does with every family of instructions, and the frames: what a form that stores nothing and a
form that stores leave as it was. -/

namespace Sys2Proof.Machine

/-! ### The meaning of a family is its shared operation -/

section Families

variable (s : State)

@[simp] theorem exec_ldRR (y z : Reg8) : exec (Family.ldRR y z) s = .next (ldRegReg y z s) := by
  cases y <;> cases z <;> rfl

@[simp] theorem exec_ldRN (y : Reg8) (n : Byte) : exec (Family.ldRN y n) s = .next (ldRegImm y n s) := by
  cases y <;> rfl

@[simp] theorem exec_ldRM (y : Reg8) : exec (Family.ldRM y) s = .next (ldRegMem y s.regs.hl 8 s) := by
  cases y <;> rfl

@[simp] theorem exec_ldMR (z : Reg8) : exec (Family.ldMR z) s = .next (ldMem s.regs.hl (s.regs.get z) 8 s) := by
  cases z <;> rfl

@[simp] theorem exec_ldRp (p : Rp) (nn : Word) : exec (Family.ldRp p nn) s = .next (ldPair p nn s) := by
  cases p <;> rfl

@[simp] theorem exec_push (p : Rp2) : exec (Family.push p) s = .next (pushPair p s) := by
  cases p <;> rfl

@[simp] theorem exec_pop (p : Rp2) : exec (Family.pop p) s = .next (popPair p s) := by
  cases p <;> rfl

@[simp] theorem exec_aluR (op : AluOp) (z : Reg8) :
    exec (Family.aluR op z) s = .next (aluOp op (s.regs.get z) 4 s) := by
  cases op <;> cases z <;> rfl

@[simp] theorem exec_aluM (op : AluOp) : exec (Family.aluM op) s = .next (aluOp op (readHl s) 8 s) := by
  cases op <;> rfl

@[simp] theorem exec_aluN (op : AluOp) (n : Byte) : exec (Family.aluN op n) s = .next (aluOp op n 8 s) := by
  cases op <;> rfl

@[simp] theorem exec_incR (y : Reg8) : exec (Family.incR y) s = .next (incReg y s) := by
  cases y <;> rfl

@[simp] theorem exec_decR (y : Reg8) : exec (Family.decR y) s = .next (decReg y s) := by
  cases y <;> rfl

@[simp] theorem exec_addHl (p : Rp) : exec (Family.addHl p) s = .next (addHlPair p s) := by
  cases p <;> rfl

@[simp] theorem exec_incRp (p : Rp) : exec (Family.incRp p) s = .next (stepPair 1#16 p s) := by
  cases p <;> rfl

@[simp] theorem exec_decRp (p : Rp) : exec (Family.decRp p) s = .next (stepPair (-1#16) p s) := by
  cases p <;> rfl

@[simp] theorem exec_rotR (op : RotOp) (z : Reg8) : exec (Family.rotR op z) s = .next (rotReg op z s) := by
  cases op <;> cases z <;> rfl

@[simp] theorem exec_rotM (op : RotOp) : exec (Family.rotM op) s = .next (rotHl op s) := by
  cases op <;> rfl

@[simp] theorem exec_bitR (b : Oct) (z : Reg8) :
    exec (Family.bitR b z) s = .next (bitTest b (s.regs.get z) 8 s) := by
  cases b <;> cases z <;> rfl

@[simp] theorem exec_bitM (b : Oct) : exec (Family.bitM b) s = .next (bitTest b (readHl s) 12 s) := by
  cases b <;> rfl

@[simp] theorem exec_resR (b : Oct) (z : Reg8) : exec (Family.resR b z) s = .next (resReg b z s) := by
  cases b <;> cases z <;> rfl

@[simp] theorem exec_resM (b : Oct) : exec (Family.resM b) s = .next (resHl b s) := by
  cases b <;> rfl

@[simp] theorem exec_setR (b : Oct) (z : Reg8) : exec (Family.setR b z) s = .next (setReg b z s) := by
  cases b <;> cases z <;> rfl

@[simp] theorem exec_setM (b : Oct) : exec (Family.setM b) s = .next (setHl b s) := by
  cases b <;> rfl

@[simp] theorem exec_jpCc (k : Cond) (nn : Word) : exec (Family.jpCc k nn) s = .next (jpCond k nn s) := by
  cases k <;> rfl

@[simp] theorem exec_jrCc (k : Cond) (e : Byte) : exec (Family.jrCc k e) s = .next (jrCond k e s) := by
  cases k <;> rfl

@[simp] theorem exec_callCc (k : Cond) (nn : Word) : exec (Family.callCc k nn) s = .next (callCond k nn s) := by
  cases k <;> rfl

@[simp] theorem exec_retCc (k : Cond) : exec (Family.retCc k) s = .next (retCond k s) := by
  cases k <;> rfl

@[simp] theorem exec_rst (y : Oct) : exec (Family.rst y) s = .next (restart y s) := by
  cases y <;> rfl

@[simp] theorem exec_illegal (u : Unassigned) : exec (Family.illegal u) s = .next (unassigned s) := by
  cases u <;> rfl

end Families

/-- `Cond(i)` as the model tests it (rule R300). -/
theorem cond_iff (g : Regs) (k : Cond) : g.cond k = true ↔ condHolds k g.f := by
  cases k <;> simp [Regs.cond, condHolds, Regs.fZ, Regs.fC, bit]

/-! ### Forms that store nothing -/

/-- `t` differs from `s` in registers and run state only, at the same speed. -/
def CpuOnly (s t : State) : Prop :=
  ∃ g r, t = { s with regs := g, run := r } ∧ r.ds = s.run.ds ∧ r.speedArmed = s.run.speedArmed

theorem spend_cpuOnly (s : State) (k : Nat) : CpuOnly s (s.spend k) := ⟨_, _, rfl, rfl, rfl⟩

theorem withRegs_spend_cpuOnly (s : State) (g : Regs) (k : Nat) : CpuOnly s ((s.withRegs g).spend k) :=
  ⟨_, _, rfl, rfl, rfl⟩

theorem ifCond_cpuOnly {s : State} (cc : Cond) {f : State → State} (k : Nat) (hf : CpuOnly s (f s)) :
    CpuOnly s (ifCond cc f k s) := by
  unfold ifCond
  split
  · exact hf
  · exact spend_cpuOnly s k

theorem unassigned_cpuOnly (s : State) : CpuOnly s (unassigned s) := by
  unfold unassigned
  split
  · exact ⟨_, _, rfl, rfl, rfl⟩
  · exact spend_cpuOnly s 4

theorem ifCond_not {s : State} {cc : Cond} (h : ¬ condHolds cc s.regs.f) (f : State → State) (k : Nat) :
    ifCond cc f k s = s.spend k := if_neg (mt (cond_iff s.regs cc).mp h)

theorem ifCond_taken {s : State} {cc : Cond} (h : condHolds cc s.regs.f) (f : State → State) (k : Nat) :
    ifCond cc f k s = f s := if_pos ((cond_iff s.regs cc).mpr h)

/-- Every form that stores nothing writes registers and the count, and a few the rest of the run state. -/
theorem storesNothing_exec {s : State} {i : Instr} (h : StoresNothing s i) :
    ∃ t, exec i s = .next t ∧ CpuOnly s t := by
  have regs := withRegs_spend_cpuOnly s
  have run (r : Run) (hds : r.ds = s.run.ds) (harm : r.speedArmed = s.run.speedArmed) :
      CpuOnly s { s with run := r } := ⟨_, r, rfl, hds, harm⟩
  cases h with
  | ldRR y z => exact ⟨_, exec_ldRR s y z, regs _ _⟩
  | ldRN y n => exact ⟨_, exec_ldRN s y n, regs _ _⟩
  | ldRM y => exact ⟨_, exec_ldRM s y, regs _ _⟩
  | ldABC => exact ⟨_, rfl, regs _ _⟩
  | ldADE => exact ⟨_, rfl, regs _ _⟩
  | ldAA16 nn => exact ⟨_, rfl, regs _ _⟩
  | ldhAA8 n => exact ⟨_, rfl, regs _ _⟩
  | ldAC => exact ⟨_, rfl, regs _ _⟩
  | ldAHLi => exact ⟨_, rfl, regs _ _⟩
  | ldAHLd => exact ⟨_, rfl, regs _ _⟩
  | ldRp p nn => exact ⟨_, exec_ldRp s p nn, regs _ _⟩
  | ldSpHl => exact ⟨_, rfl, regs _ _⟩
  | ldHlSp e => exact ⟨_, rfl, regs _ _⟩
  | pop p => exact ⟨_, exec_pop s p, regs _ _⟩
  | aluR op z => exact ⟨_, exec_aluR s op z, regs _ _⟩
  | aluM op => exact ⟨_, exec_aluM s op, regs _ _⟩
  | aluN op n => exact ⟨_, exec_aluN s op n, regs _ _⟩
  | incR y => exact ⟨_, exec_incR s y, regs _ _⟩
  | decR y => exact ⟨_, exec_decR s y, regs _ _⟩
  | daa => exact ⟨_, rfl, regs _ _⟩
  | cpl => exact ⟨_, rfl, regs _ _⟩
  | scf => exact ⟨_, rfl, regs _ _⟩
  | ccf => exact ⟨_, rfl, regs _ _⟩
  | addHl p => exact ⟨_, exec_addHl s p, regs _ _⟩
  | incRp p => exact ⟨_, exec_incRp s p, regs _ _⟩
  | decRp p => exact ⟨_, exec_decRp s p, regs _ _⟩
  | addSp e => exact ⟨_, rfl, regs _ _⟩
  | rlca => exact ⟨_, rfl, regs _ _⟩
  | rrca => exact ⟨_, rfl, regs _ _⟩
  | rla => exact ⟨_, rfl, regs _ _⟩
  | rra => exact ⟨_, rfl, regs _ _⟩
  | rotR op z => exact ⟨_, exec_rotR s op z, regs _ _⟩
  | bitR b z => exact ⟨_, exec_bitR s b z, regs _ _⟩
  | bitM b => exact ⟨_, exec_bitM s b, regs _ _⟩
  | resR b z => exact ⟨_, exec_resR s b z, regs _ _⟩
  | setR b z => exact ⟨_, exec_setR s b z, regs _ _⟩
  | jp nn => exact ⟨_, rfl, regs _ _⟩
  | jpCc k nn => exact ⟨_, exec_jpCc s k nn, ifCond_cpuOnly k _ (regs _ _)⟩
  | jpHl => exact ⟨_, rfl, regs _ _⟩
  | jr e => exact ⟨_, rfl, regs _ _⟩
  | jrCc k e => exact ⟨_, exec_jrCc s k e, ifCond_cpuOnly k _ (regs _ _)⟩
  | callCc k nn hk => exact ⟨_, exec_callCc s k nn, by rw [callCond, ifCond_not hk]; exact spend_cpuOnly s 12⟩
  | ret => exact ⟨_, rfl, regs _ _⟩
  | retCc k => exact ⟨_, exec_retCc s k, ifCond_cpuOnly k _ (regs _ _)⟩
  | reti => exact ⟨_, rfl, _, _, rfl, rfl, rfl⟩
  | nop => exact ⟨_, rfl, spend_cpuOnly s 4⟩
  | halt => exact ⟨_, rfl, run _ rfl rfl⟩
  | di => exact ⟨_, rfl, run _ rfl rfl⟩
  | ei => exact ⟨_, rfl, run _ rfl rfl⟩
  | illegal u => exact ⟨_, exec_illegal s u, unassigned_cpuOnly s⟩

theorem stopCpu_shape (s : State) : ∃ r, stopCpu s = { s with run := r } := by
  unfold stopCpu
  split <;> exact ⟨_, rfl⟩

/-- Settles O26: registers are not in memory, and of the run state memory shows the speed only, in `KEY1`. -/
theorem formsThatStoreNothingLeaveMemory : Obligations.FormsThatStoreNothingLeaveMemory := by
  refine fun s t i => ⟨fun h ht => ?_, fun n ht => ?_⟩
  · obtain ⟨_, hu, g, r, rfl, hds, harm⟩ := storesNothing_exec h
    cases hu.symm.trans ht
    have hkey1 : key1Read r = key1Read s.run := by rw [key1Read, hds, harm, key1Read]
    exact ⟨rfl, hds, harm, fun a => memRead_withRun s r a (.inl hkey1)⟩
  · obtain ⟨r, hr⟩ := stopCpu_shape s
    have hstop : exec (.stop n) s = .next (stopCpu s) := rfl
    rw [hstop, hr] at ht
    cases ht
    exact ⟨rfl, fun a ha => memRead_withRun s r a (.inr ha)⟩

/-! ### Forms that store -/

theorem pageAddr_eq (n : Byte) : pageAddr n = pageAddress n := by
  apply BitVec.eq_of_toNat_eq
  rw [pageAddress_toNat, pageAddr, join, BitVec.toNat_append, ← Nat.shiftLeft_add_eq_or_of_lt n.isLt]
  rfl

theorem getLsbD_bitByte (b : Bool) (i : Nat) : (bitByte b).getLsbD i = (decide (i = 0) && b) := by
  cases b <;> simp [bitByte]

/-- The concatenations of the model are the shifts of rules R275 to R282. -/
theorem rotVal_eq_shiftResult (op : RotOp) (v : Byte) (c : Bool) : rotVal op v c = shiftResult op v c := by
  apply BitVec.eq_of_getLsbD_eq
  intro i hi
  cases op <;> interval_cases i <;>
    simp only [rotVal, shiftResult, BitVec.getLsbD_append, BitVec.getLsbD_or, BitVec.getLsbD_and,
      BitVec.getLsbD_shiftLeft, getLsbD_bitByte] <;> simp

theorem modifyHl_after (r : Res8) (k : Nat) (s : State) :
    modifyHl r k s = (memWrite s s.regs.hl r.val).after { s.regs with f := r.flg } k := by
  have hwrite := memWrite_withRegs s { s.regs with f := r.flg } s.regs.hl r.val
  exact congrArg (State.spend · k) hwrite

/-- A form that stores a byte does one write of it through the Bus; the rest are registers and the count. -/
theorem storesByte_exec {s : State} {i : Instr} {a : Word} {v : Byte} (h : StoresByte s i a v) :
    ∃ g k, exec i s = .next ((memWrite s a v).after g k) := by
  cases h with
  | ldMR z => exact ⟨_, _, exec_ldMR s z⟩
  | ldMN n => exact ⟨_, _, rfl⟩
  | ldBC => exact ⟨_, _, rfl⟩
  | ldDE => exact ⟨_, _, rfl⟩
  | ldA16 nn => exact ⟨_, _, rfl⟩
  | ldhA8 n => exact ⟨_, _, by rw [← pageAddr_eq]; rfl⟩
  | ldC => exact ⟨_, _, by rw [← pageAddr_eq]; rfl⟩
  | ldHLi => exact ⟨_, _, rfl⟩
  | ldHLd => exact ⟨_, _, rfl⟩
  | incM => exact ⟨_, _, congrArg _ (modifyHl_after ..)⟩
  | decM => exact ⟨_, _, congrArg _ (modifyHl_after ..)⟩
  | rotM op =>
    rw [exec_rotM, rotHl, modifyHl_after, ← rotVal_eq_shiftResult]
    exact ⟨_, _, rfl⟩
  | resM b => exact ⟨_, _, exec_resM s b⟩
  | setM b => exact ⟨_, _, exec_setM s b⟩

theorem pushByte_eq (s : State) (v : Byte) :
    pushByte s v = (memWrite s (s.regs.sp - 1#16) v).withRegs { s.regs with sp := s.regs.sp - 1#16 } :=
  memWrite_withRegs ..

/-- `Push16` writes the high byte first, below `SP`, and the low byte below it (rule R200). -/
theorem push16_eq (s : State) (v : Word) :
    push16 s v = (memWrite (memWrite s (s.regs.sp - 1#16) (hiByte v)) (s.regs.sp - 2#16) (loByte v)).withRegs
      { s.regs with sp := s.regs.sp - 2#16 } := by
  have hsp : s.regs.sp - 1#16 - 1#16 = s.regs.sp - 2#16 := by rw [BitVec.sub_sub]; rfl
  rw [push16, pushByte_eq, pushByte_eq, memWrite_withRegs]
  simp only [withRegs_regs, hsp]
  rfl

/-- The two writes of a form that stores a word, in one order or the other. -/
def WordStored (s : State) (a v : Word) (u : State) : Prop :=
  u = memWrite (memWrite s a (loByte v)) (a + 1#16) (hiByte v) ∨
    u = memWrite (memWrite s (a + 1#16) (hiByte v)) a (loByte v)

theorem push16_stored (s : State) (v : Word) :
    ∃ u, WordStored s (s.regs.sp - 2#16) v u ∧ push16 s v = u.withRegs { s.regs with sp := s.regs.sp - 2#16 } := by
  have hnext : s.regs.sp - 2#16 + 1#16 = s.regs.sp - 1#16 := by bv_omega
  exact ⟨_, .inr rfl, by rw [push16_eq, hnext]⟩

/-- A form that stores a word writes its two bytes through the Bus; the rest are registers and the count. -/
theorem storesWord_exec {s : State} {i : Instr} {a v : Word} (h : StoresWord s i a v) :
    ∃ u g k, WordStored s a v u ∧ exec i s = .next (u.after g k) := by
  have called (nn : Word) (k : Nat) :
      ∃ u g k', WordStored s (s.regs.sp - 2#16) s.regs.pc u ∧ callTo nn k s = u.after g k' := by
    obtain ⟨u, hu, hpush⟩ := push16_stored s s.regs.pc
    exact ⟨u, _, k, hu, by rw [callTo, hpush]; rfl⟩
  cases h with
  | ldSp nn => exact ⟨_, _, _, .inl rfl, rfl⟩
  | push p =>
    obtain ⟨u, hu, hpush⟩ := push16_stored s (s.regs.getRp2 p)
    exact ⟨u, _, 16, hu, by rw [exec_push, pushPair, hpush]; rfl⟩
  | call nn =>
    obtain ⟨u, g, k, hu, hcall⟩ := called nn 24
    exact ⟨u, g, k, hu, congrArg _ hcall⟩
  | callCc cc nn hcc =>
    obtain ⟨u, g, k, hu, hcall⟩ := called nn 24
    exact ⟨u, g, k, hu, by rw [exec_callCc, callCond, ifCond_taken hcc, hcall]⟩
  | rst y =>
    obtain ⟨u, g, k, hu, hcall⟩ := called (BitVec.ofNat 16 (octNat y * 8)) 16
    exact ⟨u, g, k, hu, by rw [exec_rst, restart, hcall]⟩

/-- Two stores, the later one first. -/
theorem memRead_twoStores {s : State} {a b : Word} (ha : isStorage s a = true) (hb : isStorage s b = true) (x y : Byte)
    (c : Word) : memRead (memWrite (memWrite s a x) b y) c =
      if place s c = place s b then y else if place s c = place s a then x else memRead s c := by
  have hfirst := memWrite_arraysOnly ha x
  have hb' : isStorage (memWrite s a x) b = true := (hfirst.isStorage b).trans hb
  rw [readAfterWrite _ b c y hb', readAfterWrite s a c x ha, hfirst.place, hfirst.place]

section

variable {s u : State} {a v : Word} (hlo : isStorage s a = true) (hhi : isStorage s (a + 1#16) = true)
  (h : WordStored s a v u)
include hlo hhi h

theorem wordStored_arraysOnly : ArraysOnly s u := by
  rcases h with rfl | rfl
  · have hfirst := memWrite_arraysOnly hlo (loByte v)
    exact hfirst.trans (memWrite_arraysOnly ((hfirst.isStorage _).trans hhi) _)
  · have hfirst := memWrite_arraysOnly hhi (hiByte v)
    exact hfirst.trans (memWrite_arraysOnly ((hfirst.isStorage _).trans hlo) _)

/-- The two cells differ (`place_succ_ne`), so the order of the writes does not show. -/
theorem memRead_wordStored (b : Word) : memRead u b =
    if place s b = place s a then loByte v else if place s b = place s (a + 1#16) then hiByte v else memRead s b := by
  rcases h with rfl | rfl
  · rw [memRead_twoStores hlo hhi]
    by_cases hb : place s b = place s a
    · rw [if_pos hb, if_pos hb, if_neg (fun hb' => place_succ_ne hhi (hb.symm.trans hb'))]
    · rw [if_neg hb, if_neg hb]
  · exact memRead_twoStores hhi hlo _ _ b

end

/-- The registers and the count are not in memory. -/
theorem memRead_after (u : State) (g : Regs) (k : Nat) (b : Word) : memRead (u.after g k) b = memRead u b :=
  memRead_withRun u { u.run with cycles := k } b (.inl rfl)

/-- Settles O27: the form's writes land in storage, where `readAfterWrite` says what every address reads. -/
theorem formsThatStoreChangeOnlyTheirCells : Obligations.FormsThatStoreChangeOnlyTheirCells := by
  unfold Obligations.FormsThatStoreChangeOnlyTheirCells
  intro quiet
  have hquiet {s u : State} (h : ArraysOnly s u) (g : Regs) (k : Nat) : quiet s (u.after g k) := by
    obtain ⟨_, _, _, _, _, rfl⟩ := h
    exact ⟨rfl, rfl, rfl, rfl, rfl, rfl, rfl, rfl, rfl, rfl⟩
  refine ⟨fun s i a v h hs => ?_, fun s i a v h hlo hhi => ?_⟩
  · obtain ⟨g, k, hexec⟩ := storesByte_exec h
    refine ⟨_, hexec, hquiet (memWrite_arraysOnly hs v) g k, fun b => ?_⟩
    rw [memRead_after]
    exact readAfterWrite s a b v hs
  · obtain ⟨u, g, k, hu, hexec⟩ := storesWord_exec h
    refine ⟨_, hexec, hquiet (wordStored_arraysOnly hlo hhi hu) g k, fun b => ?_⟩
    rw [memRead_after]
    exact memRead_wordStored hlo hhi hu b

end Sys2Proof.Machine
end

section
/-! PROOFS. The copy engines: the block DMA, at once or a block an HBlank, and the sprite-table copy. -/

namespace Sys2Proof.Machine

/-! ### Loops -/

theorem times_eq_iterate {α : Type} (f : α → α) (k : Nat) (a : α) : times f k a = f^[k] a := by
  induction k generalizing a with
  | zero => rfl
  | succ k ih => exact ih (f a)

theorem copyBlocks_eq_times (k : Nat) (s : State) : copyBlocks k s = times copyBlock k s := by
  induction k generalizing s with
  | zero => rfl
  | succ k ih => exact ih (copyBlock s)

/-! ### One byte of a block (rule R130) -/

/-- Where byte `j` of a transfer to `d` goes: inside video RAM, whatever `d` is. -/
def vramDest (d : Word) (j : Nat) : Word := 0x8000#16 ||| ((d + BitVec.ofNat 16 j) &&& 0x1FFF#16)

theorem vramDest_toNat (d : Word) (j : Nat) : (vramDest d j).toNat = 0x8000 + (d.toNat + j) % 0x2000 := by
  have hwrap : ((d + BitVec.ofNat 16 j) &&& 0x1FFF#16).toNat = (d.toNat + j) % 0x2000 := by
    have hlow (n : Nat) : n &&& 0x1FFF = n % 0x2000 := Nat.and_two_pow_sub_one_eq_mod n 13
    simp only [BitVec.toNat_and, BitVec.toNat_add, BitVec.toNat_ofNat, Nat.reducePow, Nat.reduceMod, hlow]
    omega
  have hlt : (d.toNat + j) % 0x2000 < 2 ^ 15 := Nat.lt_trans (Nat.mod_lt _ (by decide)) (by decide)
  rw [vramDest, BitVec.toNat_or, hwrap]
  exact (Nat.two_pow_add_eq_or_of_lt hlt 1).symm

theorem vramDest_inj {d d' : Word} {i j : Nat} :
    vramDest d i = vramDest d' j ↔ (d.toNat + i) % 0x2000 = (d'.toNat + j) % 0x2000 := by
  rw [← BitVec.toNat_inj, vramDest_toNat, vramDest_toNat]
  exact Nat.add_left_cancel_iff

theorem vramDest_range (d : Word) (j : Nat) : 0x8000 ≤ (vramDest d j).toNat ∧ (vramDest d j).toNat < 0xA000 := by
  have hmod : (d.toNat + j) % 0x2000 < 0x2000 := Nat.mod_lt _ (by decide)
  rw [vramDest_toNat]
  omega

theorem place_vramDest (s : State) (d : Word) (j : Nat) :
    place s (vramDest d j) = .vram (vramBank s * 0x2000 + (d.toNat + j) % 0x2000) := by
  obtain ⟨hlo, hhi⟩ := vramDest_range d j
  rw [place_vram hlo hhi, vramDest_toNat, Nat.add_sub_cancel_left]

theorem isStorage_vramDest (s : State) (d : Word) (j : Nat) : isStorage s (vramDest d j) = true := by
  rw [isStorage, place_vramDest]

/-- A cell of the selected video bank has one address. -/
theorem place_eq_vramDest {s : State} {a d : Word} {j : Nat} :
    place s a = place s (vramDest d j) ↔ a = vramDest d j := by
  refine ⟨fun h => BitVec.eq_of_toNat_eq ?_, fun h => h ▸ rfl⟩
  rw [place_vramDest] at h
  obtain ⟨hlo, hhi, hcell⟩ := lands_of_place h
  rw [vramDest_toNat]
  omega

/-- The engine's store is the Bus's: a byte is read and written as the CPU would. -/
theorem copyByte_eq (s : State) (i : Nat) :
    copyByte s i = memWrite s (vramDest s.dma.dst i) (memRead s (s.dma.src + BitVec.ofNat 16 i)) := by
  rw [memWrite, place_vramDest]
  rfl

/-! ### The write to `HDMA5` (rules R48, R125, R130) -/

theorem memWrite_hdma5 {s : State} (hg : s.cfg.gen = .two) (w : Byte) : memWrite s 0xFF55#16 w = hdma5Write s w := by
  have hreg : pageReg s.cfg.gen 0x55#8 = .hdma5 := by rw [hg]; rfl
  calc memWrite s 0xFF55#16 w
      = pageWrite s 0x55#8 w := memWrite_page s 0x55#8 w
    _ = hdma5Write s w := by rw [pageWrite, hreg]

theorem memRead_hdma5 {s : State} (hg : s.cfg.gen = .two) : memRead s 0xFF55#16 = hdma5Read s.dma := by
  have hreg : pageReg s.cfg.gen 0x55#8 = .hdma5 := by rw [hg]; rfl
  calc memRead s 0xFF55#16
      = pageRead s 0x55#8 := memRead_page s 0x55#8
    _ = hdma5Read s.dma := by rw [pageRead, hreg]

/-- With no transfer active the high bit reads 1 (rule R48). -/
theorem hdma5Read_idle {d : Dma} (h : d.active = false) : hdma5Read d = 0x80#8 ||| (d.rem - 1#8) := by
  apply BitVec.eq_of_getLsbD_eq
  intro i hi
  generalize hv : d.rem - 1#8 = v
  rw [hdma5Read, h, hv]
  interval_cases i <;> simp only [BitVec.getLsbD_append, BitVec.getLsbD_or] <;> simp

theorem memRead_hdma5_idle {s : State} (hg : s.cfg.gen = .two) (ha : s.dma.active = false) :
    memRead s 0xFF55#16 = 0x80#8 ||| (s.dma.rem - 1#8) := (memRead_hdma5 hg).trans (hdma5Read_idle ha)

/-- The block count of a write (rule R125). -/
theorem blockCount_eq (w : Byte) : (w &&& 0x7F#8) + 1#8 = BitVec.ofNat 8 (w.toNat % 128 + 1) := by
  have hlow (n : Nat) : n &&& 0x7F = n % 128 := Nat.and_two_pow_sub_one_eq_mod n 7
  apply BitVec.eq_of_toNat_eq
  simp only [BitVec.toNat_add, BitVec.toNat_and, BitVec.toNat_ofNat, Nat.reducePow, Nat.reduceMod, hlow]

section

variable {s : State} {w : Byte}

theorem hdma5Write_cancel (ha : s.dma.active = true) (h7 : bit w 7 = false) :
    hdma5Write s w = { s with dma := { s.dma with active := false } } := by
  rw [hdma5Write, if_pos (by rw [ha, h7]; rfl)]

theorem hdma5Write_arm (h7 : bit w 7 = true) : hdma5Write s w =
    { s with dma := { s.dma with rem := BitVec.ofNat 8 (w.toNat % 128 + 1), active := true } } := by
  rw [hdma5Write, if_neg (by rw [h7, Bool.not_true, Bool.and_false]; exact Bool.false_ne_true), blockCount_eq]
  exact if_pos h7

theorem hdma5Write_now (ha : s.dma.active = false) (h7 : bit w 7 = false) : hdma5Write s w =
    copyBlocks (w.toNat % 128 + 1) { s with dma := { s.dma with rem := BitVec.ofNat 8 (w.toNat % 128 + 1) } } := by
  have hcount : (BitVec.ofNat 8 (w.toNat % 128 + 1)).toNat = w.toNat % 128 + 1 := by
    rw [BitVec.toNat_ofNat]
    omega
  rw [hdma5Write, if_neg (by rw [ha, Bool.false_and]; exact Bool.false_ne_true), blockCount_eq]
  dsimp only
  rw [if_neg (by rw [h7]; exact Bool.false_ne_true), hcount]

end

theorem copyBlocks_dma (k : Nat) (s : State) :
    (copyBlocks k s).dma.rem = s.dma.rem - BitVec.ofNat 8 k ∧ (copyBlocks k s).dma.active = s.dma.active := by
  obtain ⟨v, src, dst, h⟩ := copyBlocks_shape k s
  rw [h]
  exact ⟨rfl, rfl⟩

theorem copyBlocks_cfg (k : Nat) (s : State) : (copyBlocks k s).cfg = s.cfg := by
  obtain ⟨v, src, dst, h⟩ := copyBlocks_shape k s
  rw [h]

/-- Settles O40: the three arms of the write, and a block byte by byte through the Bus (`copyByte_eq`). -/
theorem blockDmaWrite : Obligations.BlockDmaWrite := by
  intro s w hg n block
  have hblock : block = copyBlock := by
    have hbyte : copyByte = fun x i => memWrite x (vramDest x.dma.dst i) (memRead x (x.dma.src + BitVec.ofNat 16 i)) :=
      funext fun x => funext fun i => copyByte_eq x i
    funext u
    rw [copyBlock, hbyte]
    rfl
  rw [memWrite_hdma5 hg, hblock]
  refine ⟨fun ha h7 => ?_, fun h7 => hdma5Write_arm h7, fun ha h7 => ?_⟩
  · rw [hdma5Write_cancel ha h7]
    exact ⟨rfl, memRead_hdma5_idle (s := { s with dma := { s.dma with active := false } }) hg rfl⟩
  · obtain ⟨hrem, hactive⟩ := copyBlocks_dma n { s with dma := { s.dma with rem := BitVec.ofNat 8 n } }
    have hcfg := copyBlocks_cfg n { s with dma := { s.dma with rem := BitVec.ofNat 8 n } }
    have hread := memRead_hdma5_idle ((congrArg Config.gen hcfg).trans hg) (hactive.trans ha)
    rw [hrem, BitVec.sub_self] at hread
    rw [hdma5Write_now ha h7, ← copyBlocks_eq_times]
    exact ⟨rfl, hread⟩

/-! ### What an immediate transfer copies (rules R126, R130) -/

/-- Outside video RAM and the page: what the engine neither writes nor shows. -/
abbrev QuietSource (a : Word) : Prop := a.toNat < 0x8000 ∨ 0xA000 ≤ a.toNat ∧ a.toNat < 0xFF00

theorem QuietSource.ne_vramDest {a : Word} (h : QuietSource a) (d : Word) (j : Nat) : a ≠ vramDest d j := by
  obtain ⟨hlo, hhi⟩ := vramDest_range d j
  rintro rfl
  omega

theorem QuietSource.ne_hdma5 {a : Word} (h : QuietSource a) : a ≠ 0xFF55#16 := by
  rintro rfl
  revert h
  decide

theorem vramDest_ne_hdma5 (d : Word) (j : Nat) : vramDest d j ≠ 0xFF55#16 := by
  obtain ⟨-, hhi⟩ := vramDest_range d j
  intro h
  rw [h] at hhi
  exact absurd hhi (by decide)

/-- In `t` the first `m` bytes of the transfer that starts in `s` are in place, and memory is otherwise as in `s`. -/
structure Copied (s : State) (m : Nat) (t : State) : Prop where
  hit : ∀ j, j < m → memRead t (vramDest s.dma.dst j) = memRead s (s.dma.src + BitVec.ofNat 16 j)
  miss : ∀ a, (∀ j, j < m → a ≠ vramDest s.dma.dst j) → a ≠ 0xFF55#16 → memRead t a = memRead s a

/-- The pointers of `t` stand at byte `m` of the transfer that starts in `s`. -/
structure PointsAt (s : State) (m : Nat) (t : State) : Prop where
  src : t.dma.src = s.dma.src + BitVec.ofNat 16 m
  dst : t.dma.dst.toNat % 0x2000 = (s.dma.dst.toNat + m) % 0x2000

section

variable {s t : State} {m : Nat}

theorem PointsAt.congr {u : State} (h : PointsAt s m t) (hdma : u.dma = t.dma) : PointsAt s m u :=
  ⟨by rw [hdma, h.src], by rw [hdma, h.dst]⟩

theorem PointsAt.src_add (h : PointsAt s m t) (i : Nat) :
    t.dma.src + BitVec.ofNat 16 i = s.dma.src + BitVec.ofNat 16 (m + i) := by
  rw [h.src, BitVec.ofNat_add, BitVec.add_assoc]

theorem PointsAt.dest_add (h : PointsAt s m t) (i : Nat) :
    vramDest t.dma.dst i = vramDest s.dma.dst (m + i) := by
  have hdst := h.dst
  rw [vramDest_inj]
  omega

theorem Copied.withDma (h : Copied s m t) (d : Dma) (hport : d.port = t.dma.port) :
    Copied s m { t with dma := d } where
  hit j hj := (memRead_withDma t d _ hport (vramDest_ne_hdma5 _ j)).trans (h.hit j hj)
  miss a ha hne := (memRead_withDma t d a hport hne).trans (h.miss a ha hne)

/-- One byte more: its source reads as it did at the start, and no earlier byte went to the same place. -/
theorem copyByte_copied {i : Nat} (h : Copied s (m + i) t) (hp : PointsAt s m t) (hlt : m + i < 0x2000)
    (hsrc : QuietSource (s.dma.src + BitVec.ofNat 16 (m + i))) : Copied s (m + i + 1) (copyByte t i) := by
  have hbyte : memRead t (s.dma.src + BitVec.ofNat 16 (m + i)) = memRead s (s.dma.src + BitVec.ofNat 16 (m + i)) :=
    h.miss _ (fun j _ => hsrc.ne_vramDest _ j) hsrc.ne_hdma5
  have hread (a : Word) : memRead (copyByte t i) a =
      if a = vramDest s.dma.dst (m + i) then memRead s (s.dma.src + BitVec.ofNat 16 (m + i)) else memRead t a := by
    rw [copyByte_eq, hp.src_add, hp.dest_add, readAfterWrite _ _ _ _ (isStorage_vramDest ..), hbyte]
    simp only [place_eq_vramDest]
  refine ⟨fun j hj => ?_, fun a ha hne => ?_⟩
  · rw [hread]
    by_cases hjm : j = m + i
    · rw [hjm, if_pos rfl]
    · have hother : vramDest s.dma.dst j ≠ vramDest s.dma.dst (m + i) := by
        rw [Ne, vramDest_inj]
        omega
      rw [if_neg hother]
      exact h.hit j (by omega)
  · rw [hread, if_neg (ha _ (Nat.lt_succ_self _))]
    exact h.miss a (fun j hj => ha j (Nat.lt_succ_of_lt hj)) hne

theorem copyBytes_dma (l : List Nat) (u : State) : (l.foldl copyByte u).dma = u.dma :=
  foldl_keeps (fun u => u.dma) copyByte (fun _ _ => rfl) l u

theorem copyBytes_copied (h : Copied s m t) (hp : PointsAt s m t) (i : Nat) (hlt : m + i ≤ 0x2000)
    (hsrc : ∀ j, j < m + i → QuietSource (s.dma.src + BitVec.ofNat 16 j)) :
    Copied s (m + i) ((List.range i).foldl copyByte t) := by
  induction i with
  | zero => exact h
  | succ i ih =>
    rw [List.range_succ, List.foldl_append]
    exact copyByte_copied (ih (by omega) fun j hj => hsrc j (by omega)) (hp.congr (copyBytes_dma ..)) (by omega)
      (hsrc _ (by omega))

theorem copyBlock_copied (h : Copied s m t) (hp : PointsAt s m t) (hlt : m + 16 ≤ 0x2000)
    (hsrc : ∀ j, j < m + 16 → QuietSource (s.dma.src + BitVec.ofNat 16 j)) :
    Copied s (m + 16) (copyBlock t) ∧ PointsAt s (m + 16) (copyBlock t) := by
  refine ⟨(copyBytes_copied h hp 16 hlt hsrc).withDma _ rfl, ?_, ?_⟩
  · show ((List.range 16).foldl copyByte t).dma.src + 16#16 = _
    rw [copyBytes_dma]
    exact hp.src_add 16
  · have hdst := hp.dst
    show (vramDest ((List.range 16).foldl copyByte t).dma.dst 16).toNat % 0x2000 = _
    rw [copyBytes_dma, vramDest_toNat]
    omega

theorem copyBlocks_copied (k : Nat) (h : Copied s m t) (hp : PointsAt s m t) (hlt : m + 16 * k ≤ 0x2000)
    (hsrc : ∀ j, j < m + 16 * k → QuietSource (s.dma.src + BitVec.ofNat 16 j)) :
    Copied s (m + 16 * k) (copyBlocks k t) := by
  induction k generalizing m t with
  | zero => exact h
  | succ k ih =>
    obtain ⟨h', hp'⟩ := copyBlock_copied h hp (by omega) fun j hj => hsrc j (by omega)
    have hall := ih h' hp' (by omega) fun j hj => hsrc j (by omega)
    rw [Nat.mul_succ, Nat.add_comm (16 * k), ← Nat.add_assoc]
    exact hall

end

/-- Settles O41: at most 2048 bytes go to different places of video RAM, and no source is one of them. -/
theorem immediateBlockDmaCopiesTheBytes : Obligations.ImmediateBlockDmaCopiesTheBytes := by
  intro s w hg ha h7 n t hsrc
  have hstart : Copied s 0 { s with dma := { s.dma with rem := BitVec.ofNat 8 n } } :=
    ⟨fun j hj => absurd hj (Nat.not_lt_zero j), fun a _ hne => memRead_withDma s _ a rfl hne⟩
  have hpoints : PointsAt s 0 { s with dma := { s.dma with rem := BitVec.ofNat 8 n } } :=
    ⟨(BitVec.add_zero _).symm, rfl⟩
  have hall := copyBlocks_copied n hstart hpoints (by omega) (by rw [Nat.zero_add]; exact hsrc)
  have ht : t = copyBlocks n { s with dma := { s.dma with rem := BitVec.ofNat 8 n } } :=
    (memWrite_hdma5 hg w).trans (hdma5Write_now ha h7)
  rw [Nat.zero_add, ← ht] at hall
  exact ⟨hall.hit, hall.miss⟩

/-! ### A block an HBlank (rule R128) -/

theorem copyBlocks_succ (k : Nat) (s : State) : copyBlocks (k + 1) s = copyBlock (copyBlocks k s) := by
  rw [copyBlocks_eq_times, copyBlocks_eq_times, times_eq_iterate, times_eq_iterate, Function.iterate_succ_apply']

theorem copyBlocks_rem {s : State} {k : Nat} (hk : k ≤ s.dma.rem.toNat) :
    (copyBlocks k s).dma.rem.toNat = s.dma.rem.toNat - k := by
  have hlt := s.dma.rem.isLt
  rw [(copyBlocks_dma k s).1, BitVec.toNat_sub, BitVec.toNat_ofNat]
  omega

theorem hblankDma_idle {s : State} (h : s.dma.active = false) : hblankDma s = s := by
  rw [hblankDma, if_neg (by rw [h]; exact Bool.false_ne_true)]

section

variable {s : State} (h : s.dma.active = true)
include h

theorem hblankDma_more (hrem : s.dma.rem ≠ 1#8) : hblankDma s = copyBlock s := by
  obtain ⟨hless, -⟩ := copyBlocks_dma 1 s
  have hleft : (copyBlock s).dma.rem ≠ 0#8 := fun h0 => hrem (by
    have hzero : s.dma.rem - 1#8 = 0#8 := hless.symm.trans h0
    bv_omega)
  rw [hblankDma, if_pos h]
  exact if_neg hleft

theorem hblankDma_last (hrem : s.dma.rem = 1#8) :
    hblankDma s = { copyBlock s with dma := { (copyBlock s).dma with active := false } } := by
  obtain ⟨hless, -⟩ := copyBlocks_dma 1 s
  have hnone : (copyBlock s).dma.rem = 0#8 := hless.trans (by rw [hrem]; rfl)
  rw [hblankDma, if_pos h]
  exact if_pos hnone

/-- While blocks are left an entry to HBlank copies one. -/
theorem hblankDma_blocks {k : Nat} (hk : k < s.dma.rem.toNat) : hblankDma^[k] s = copyBlocks k s := by
  induction k with
  | zero => rfl
  | succ k ih =>
    obtain ⟨-, hactive⟩ := copyBlocks_dma k s
    have hmore : (copyBlocks k s).dma.rem ≠ 1#8 := by
      rw [Ne, ← BitVec.toNat_inj, copyBlocks_rem (by omega)]
      show s.dma.rem.toNat - k ≠ 1
      omega
    rw [Function.iterate_succ_apply', ih (by omega), hblankDma_more (hactive.trans h) hmore, copyBlocks_succ]

/-- The entry that copies the last block ends the transfer. -/
theorem hblankDma_end {k : Nat} (hk : s.dma.rem.toNat = k + 1) : hblankDma^[k + 1] s =
    { copyBlocks (k + 1) s with dma := { (copyBlocks (k + 1) s).dma with active := false } } := by
  obtain ⟨-, hactive⟩ := copyBlocks_dma k s
  have hlast : (copyBlocks k s).dma.rem = 1#8 := by
    rw [← BitVec.toNat_inj, copyBlocks_rem (by omega), hk]
    exact Nat.add_sub_cancel_left k 1
  rw [Function.iterate_succ_apply', hblankDma_blocks h (by omega), hblankDma_last (hactive.trans h) hlast,
    copyBlocks_succ]

end

/-- Settles O42: the entries copy the blocks one by one, the last one ends the transfer, and an idle engine stays so. -/
theorem pacedDmaCopiesOneBlockPerHblank : Obligations.PacedDmaCopiesOneBlockPerHblank := by
  refine fun s => ⟨hblankDma_idle, fun h k hk => ?_, fun h hpos k hk => ?_⟩
  · rw [times_eq_iterate, hblankDma_blocks h hk, copyBlocks_eq_times]
  · obtain ⟨m, hm⟩ := Nat.exists_eq_succ_of_ne_zero (Nat.ne_of_gt hpos)
    obtain ⟨hrem, -⟩ := copyBlocks_dma s.dma.rem.toNat s
    have hend := hblankDma_end h hm
    rw [← Nat.succ_eq_add_one, ← hm] at hend
    rw [← copyBlocks_eq_times, times_eq_iterate, ← Nat.sub_add_cancel hk, Function.iterate_add_apply, hend]
    refine ⟨Function.iterate_fixed (hblankDma_idle rfl) _, hrem.trans ?_⟩
    rw [BitVec.ofNat_toNat, BitVec.setWidth_eq, BitVec.sub_self]

/-! ### The sprite-table copy (rules R41, R132) -/

/-- The address byte `i` of the copy from page `w` is read at. -/
def oamSource (w : Byte) (i : Nat) : Word := join w 0#8 + BitVec.ofNat 16 i

theorem join_zero_toNat (w : Byte) : (join w 0#8).toNat = w.toNat * 256 := by
  rw [join, BitVec.toNat_append, Nat.shiftLeft_eq]
  exact Nat.or_zero _

theorem oamSource_toNat (w : Byte) {i : Nat} (hi : i < 160) : (oamSource w i).toNat = w.toNat * 256 + i := by
  have hlt := w.isLt
  rw [oamSource, BitVec.toNat_add, join_zero_toNat, BitVec.toNat_ofNat]
  omega

theorem oamSource_eq (w : Byte) (i : Nat) : oamSource w i = (w.setWidth 16) <<< 8 + BitVec.ofNat 16 i := by
  have hjoin : join w 0#8 = (w.setWidth 16) <<< 8 := by
    have hlt := w.isLt
    apply BitVec.eq_of_toNat_eq
    rw [join_zero_toNat, BitVec.toNat_shiftLeft, BitVec.toNat_setWidth, Nat.shiftLeft_eq]
    omega
  rw [oamSource, hjoin]

/-- A source inside the sprite table is the very entry the byte goes to. -/
theorem oamSource_self {s : State} {w : Byte} {i k : Nat} (hi : i < 160) (h : place s (oamSource w i) = .oam k) :
    k = i := by
  obtain ⟨hlo, hhi, hk⟩ := lands_of_place h
  rw [oamSource_toNat w hi] at hlo hhi hk
  omega

/-- The table does not show in the byte copied: only its own entry could, and that one is not written yet. -/
theorem memRead_oamSource {s : State} {w : Byte} {i : Nat} (hi : i < 160) (o : Memory 8)
    (ho : o.read i = s.ram.oam.read i) :
    memRead { s with ram := { s.ram with oam := o } } (oamSource w i) = memRead s (oamSource w i) := by
  have hplace : place { s with ram := { s.ram with oam := o } } (oamSource w i) = place s (oamSource w i) := rfl
  rw [memRead, memRead, hplace]
  cases hp : place s (oamSource w i)
  case oam k =>
    rw [oamSource_self hi hp]
    exact ho
  all_goals rfl

theorem oamCopy_read (w : Byte) (s : State) (n : Nat) (hn : n ≤ 160) (i : Nat) :
    ((List.range n).foldl (oamCopyByte w) s).ram.oam.read i =
      if i < n then memRead s (oamSource w i) else s.ram.oam.read i := by
  induction n generalizing i with
  | zero => rfl
  | succ n ih =>
    have hthis := ih (by omega) n
    rw [if_neg (Nat.lt_irrefl n)] at hthis
    have hi := ih (by omega) i
    obtain ⟨o, ho⟩ := oamCopy_shape w (List.range n) s
    rw [ho] at hthis hi
    rw [List.range_succ, List.foldl_append, ho]
    show (o.write n (memRead { s with ram := { s.ram with oam := o } } (oamSource w n))).read i = _
    rw [memRead_oamSource (by omega) o hthis, read_write]
    by_cases hin : i = n
    · rw [if_pos hin, hin, if_pos (Nat.lt_succ_self n)]
    · rw [if_neg hin, hi]
      exact if_congr (by omega) rfl rfl

/-- Settles O43: `DMA` is a register of both generations, and `oamCopy_read` gives every entry of the table. -/
theorem spriteTableCopy : Obligations.SpriteTableCopy := by
  intro s w t
  have ht : t = oamDmaWrite s w := memWrite_page s 0x46#8 w
  have hread (i : Nat) := oamCopy_read w { s with dma := { s.dma with port := w } } 160 (Nat.le_refl _) i
  have hoam (i : Nat) : t.ram.oam.read i = _ := (congrArg (fun u : State => u.ram.oam.read i) ht).trans (hread i)
  obtain ⟨o, ho⟩ := oamDmaWrite_shape s w
  refine ⟨?_, fun i hi => ?_, fun i hi => ?_⟩
  · rw [ht, ho]
  · rw [hoam, if_pos hi, oamSource_eq]
  · rw [hoam, if_neg (Nat.not_lt.mpr hi)]

end Sys2Proof.Machine
end

section
/-! PROOFS. The decoder and the encoder are inverse to each other, and the opcode byte fixes the length. -/

namespace Sys2Proof.Machine

/-! ### The selector tables, read back as numbers (rules R144 to R147) -/

theorem rpCode_rpOf : ∀ p < 4, rpCode (rpOf p) = p := by decide

theorem rp2Code_rp2Of : ∀ p < 4, rp2Code (rp2Of p) = p := by decide

theorem ccCode_ccOf : ∀ k < 4, ccCode (ccOf k) = k := by decide

theorem aluCode_aluOf : ∀ y < 8, aluCode (aluOf y) = y := by decide

theorem rotCode_rotOf : ∀ y < 8, rotCode (rotOf y) = y := by decide

theorem octNat_octOf : ∀ y < 8, octNat (octOf y) = y := by decide

theorem regCode_r8Of {sel : Nat} {r : Reg8} (hsel : sel < 8) (h : r8Of sel = some r) : regCode r = sel := by
  have key : ∀ n < 8, ∀ r ∈ r8Of n, regCode r = n := by decide
  exact key sel hsel r h

theorem r8Of_eq_none {sel : Nat} (h : r8Of sel = none) : sel = 6 := by
  unfold r8Of at h
  split at h
  case h_7 => rfl
  all_goals nomatch h

/-! ### The bytes of the families -/

theorem encode_ldRR (y z : Reg8) : encode (Family.ldRR y z) = [BitVec.ofNat 8 (0x40 + 8 * regCode y + regCode z)] := by
  cases y <;> cases z <;> rfl

theorem encode_ldRM (y : Reg8) : encode (Family.ldRM y) = [BitVec.ofNat 8 (0x46 + 8 * regCode y)] := by
  cases y <;> rfl

theorem encode_ldMR (z : Reg8) : encode (Family.ldMR z) = [BitVec.ofNat 8 (0x70 + regCode z)] := by
  cases z <;> rfl

theorem encode_ldRN (y : Reg8) (n : Byte) : encode (Family.ldRN y n) = [BitVec.ofNat 8 (0x06 + 8 * regCode y), n] := by
  cases y <;> rfl

theorem encode_incR (y : Reg8) : encode (Family.incR y) = [BitVec.ofNat 8 (0x04 + 8 * regCode y)] := by
  cases y <;> rfl

theorem encode_decR (y : Reg8) : encode (Family.decR y) = [BitVec.ofNat 8 (0x05 + 8 * regCode y)] := by
  cases y <;> rfl

theorem encode_ldRp (p : Rp) (nn : Word) :
    encode (Family.ldRp p nn) = [BitVec.ofNat 8 (0x01 + 16 * rpCode p), loByte nn, hiByte nn] := by
  cases p <;> rfl

theorem encode_addHl (p : Rp) : encode (Family.addHl p) = [BitVec.ofNat 8 (0x09 + 16 * rpCode p)] := by
  cases p <;> rfl

theorem encode_incRp (p : Rp) : encode (Family.incRp p) = [BitVec.ofNat 8 (0x03 + 16 * rpCode p)] := by
  cases p <;> rfl

theorem encode_decRp (p : Rp) : encode (Family.decRp p) = [BitVec.ofNat 8 (0x0B + 16 * rpCode p)] := by
  cases p <;> rfl

theorem encode_push (p : Rp2) : encode (Family.push p) = [BitVec.ofNat 8 (0xC5 + 16 * rp2Code p)] := by
  cases p <;> rfl

theorem encode_pop (p : Rp2) : encode (Family.pop p) = [BitVec.ofNat 8 (0xC1 + 16 * rp2Code p)] := by
  cases p <;> rfl

theorem encode_aluR (op : AluOp) (z : Reg8) :
    encode (Family.aluR op z) = [BitVec.ofNat 8 (0x80 + 8 * aluCode op + regCode z)] := by
  cases op <;> cases z <;> rfl

theorem encode_aluM (op : AluOp) : encode (Family.aluM op) = [BitVec.ofNat 8 (0x86 + 8 * aluCode op)] := by
  cases op <;> rfl

theorem encode_aluN (op : AluOp) (n : Byte) :
    encode (Family.aluN op n) = [BitVec.ofNat 8 (0xC6 + 8 * aluCode op), n] := by
  cases op <;> rfl

theorem encode_jpCc (k : Cond) (nn : Word) :
    encode (Family.jpCc k nn) = [BitVec.ofNat 8 (0xC2 + 8 * ccCode k), loByte nn, hiByte nn] := by
  cases k <;> rfl

theorem encode_jrCc (k : Cond) (e : Byte) : encode (Family.jrCc k e) = [BitVec.ofNat 8 (0x20 + 8 * ccCode k), e] := by
  cases k <;> rfl

theorem encode_callCc (k : Cond) (nn : Word) :
    encode (Family.callCc k nn) = [BitVec.ofNat 8 (0xC4 + 8 * ccCode k), loByte nn, hiByte nn] := by
  cases k <;> rfl

theorem encode_retCc (k : Cond) : encode (Family.retCc k) = [BitVec.ofNat 8 (0xC0 + 8 * ccCode k)] := by
  cases k <;> rfl

theorem encode_rst (y : Oct) : encode (Family.rst y) = [BitVec.ofNat 8 (0xC7 + 8 * octNat y)] := by
  cases y <;> rfl

theorem encode_rotR (op : RotOp) (z : Reg8) :
    encode (Family.rotR op z) = [0xCB#8, BitVec.ofNat 8 (8 * rotCode op + regCode z)] := by
  cases op <;> cases z <;> rfl

theorem encode_rotM (op : RotOp) : encode (Family.rotM op) = [0xCB#8, BitVec.ofNat 8 (8 * rotCode op + 6)] := by
  cases op <;> rfl

theorem encode_bitR (b : Oct) (z : Reg8) :
    encode (Family.bitR b z) = [0xCB#8, BitVec.ofNat 8 (0x40 + 8 * octNat b + regCode z)] := by
  cases b <;> cases z <;> rfl

theorem encode_resR (b : Oct) (z : Reg8) :
    encode (Family.resR b z) = [0xCB#8, BitVec.ofNat 8 (0x80 + 8 * octNat b + regCode z)] := by
  cases b <;> cases z <;> rfl

theorem encode_setR (b : Oct) (z : Reg8) :
    encode (Family.setR b z) = [0xCB#8, BitVec.ofNat 8 (0xC0 + 8 * octNat b + regCode z)] := by
  cases b <;> cases z <;> rfl

theorem encode_bitM (b : Oct) : encode (Family.bitM b) = [0xCB#8, BitVec.ofNat 8 (0x46 + 8 * octNat b)] := by
  cases b <;> rfl

theorem encode_resM (b : Oct) : encode (Family.resM b) = [0xCB#8, BitVec.ofNat 8 (0x86 + 8 * octNat b)] := by
  cases b <;> rfl

theorem encode_setM (b : Oct) : encode (Family.setM b) = [0xCB#8, BitVec.ofNat 8 (0xC6 + 8 * octNat b)] := by
  cases b <;> rfl

/-- The two forms of an operand `r8` are one row of bytes: selector 6 stands for `(HL)` (rule R144). -/
theorem encode_withR8 (f : Nat → List Byte) {reg : Reg8 → Instr} {mem : Instr} {sel : Nat} (hsel : sel < 8)
    (hreg : ∀ r, encode (reg r) = f (regCode r)) (hmem : encode mem = f 6) : encode (withR8 sel reg mem) = f sel := by
  unfold withR8
  split
  case h_1 r hr => rw [hreg, regCode_r8Of hsel hr]
  case h_2 hr => rw [hmem, r8Of_eq_none hr]

/-! ### The bytes of a decoded instruction -/

theorem zOf_lt (op : Byte) : zOf op < 8 := Nat.mod_lt _ (by decide)

/-! A field that is none of the values before the last is the last. -/

theorem xOf_eq_three {op : Byte} (h0 : xOf op ≠ 0) (h1 : xOf op ≠ 1) (h2 : xOf op ≠ 2) : xOf op = 3 := by
  have hlt := xOf_lt op
  omega

theorem selector_eq_seven {n : Nat} (hlt : n < 8) (h0 : n ≠ 0) (h1 : n ≠ 1) (h2 : n ≠ 2) (h3 : n ≠ 3) (h4 : n ≠ 4)
    (h5 : n ≠ 5) (h6 : n ≠ 6) : n = 7 := by
  omega

theorem qOf_eq_one {op : Byte} (h : qOf op ≠ 0) : qOf op = 1 := (Nat.mod_two_eq_zero_or_one _).resolve_left h

theorem pOf_lt (op : Byte) : pOf op < 4 := by
  have hlt := yOf_lt op
  unfold pOf
  omega

/-- A byte is put together from its three fields (rule R141). -/
theorem ofNat_fields {op : Byte} {m : Nat} (hm : m = 64 * xOf op + 8 * yOf op + zOf op) : BitVec.ofNat 8 m = op := by
  have hop : m = op.toNat := by
    unfold xOf yOf zOf at hm
    omega
  rw [hop, BitVec.ofNat_toNat, BitVec.setWidth_eq]

/-- An instruction whose encoding begins with the byte of number `m` is encoded in the bytes it was decoded from, when
`m` is the opcode and the rest agrees. -/
theorem isPrefix_of_fields {i : Instr} {op : Byte} {m : Nat} {t u : List Byte} (hi : encode i = BitVec.ofNat 8 m :: t)
    (hm : m = 64 * xOf op + 8 * yOf op + zOf op) (ht : t <+: u) : encode i <+: op :: u := by
  rw [hi, ofNat_fields hm, List.cons_prefix_cons]
  exact ⟨rfl, ht⟩

/-- The same for an opcode that stands for one instruction. -/
theorem isPrefix_of_opcode {i : Instr} {op c : Byte} {t u : List Byte} (hi : encode i = c :: t) (hx : xOf op = xOf c)
    (hy : yOf op = yOf c) (hz : zOf op = zOf c) (ht : t <+: u) : encode i <+: op :: u := by
  rw [hi, (opcode_eq_iff op c).2 ⟨hx, hy, hz⟩, List.cons_prefix_cons]
  exact ⟨rfl, ht⟩

theorem yOf_congr {op c : Byte} (hp : pOf op = pOf c) (hq : qOf op = qOf c) : yOf op = yOf c := by
  rw [yOf_eq, yOf_eq c, hp, hq]

/-- The extended page, all of whose bytes are used (rule R149): a group's bytes count its operand on from `m`. -/
theorem encode_decodeExt (ext : Byte) : encode (decodeExt ext) = [0xCB#8, ext] := by
  have hrot := rotCode_rotOf (yOf ext) (yOf_lt ext)
  have hoct := octNat_octOf (yOf ext) (yOf_lt ext)
  have group {reg : Reg8 → Instr} {mem : Instr} (m : Nat) (hm : m = 64 * xOf ext + 8 * yOf ext)
      (hreg : ∀ r, encode (reg r) = [0xCB#8, BitVec.ofNat 8 (m + regCode r)])
      (hmem : encode mem = [0xCB#8, BitVec.ofNat 8 (m + 6)]) : encode (withR8 (zOf ext) reg mem) = [0xCB#8, ext] := by
    rw [encode_withR8 (fun k => [0xCB#8, BitVec.ofNat 8 (m + k)]) (zOf_lt ext) hreg hmem,
      ofNat_fields (m := m + zOf ext) (by rw [hm])]
  unfold decodeExt
  split
  case h_1 hx => exact group _ (by omega) (encode_rotR _) (encode_rotM _)
  case h_2 hx => exact group _ (by omega) (encode_bitR _) (by rw [encode_bitM, Nat.add_right_comm])
  case h_3 hx => exact group _ (by omega) (encode_resR _) (by rw [encode_resM, Nat.add_right_comm])
  case h_4 hx0 hx1 hx2 =>
    have hx := xOf_eq_three hx0 hx1 hx2
    exact group _ (by omega) (encode_setR _) (by rw [encode_setM, Nat.add_right_comm])

/-! Where the decoder goes by a selector, the family's bytes have the selector's number in the opcode; where it goes by
a fixed opcode, that opcode is the instruction's. A word operand is its two bytes. -/

theorem encode_decodeX0_isPrefix {op : Byte} (hx : xOf op = 0) (nn : Word) :
    encode (decodeX0 op (loByte nn) (hiByte nn)) <+: [op, loByte nn, hiByte nn] := by
  have hlt := yOf_lt op
  have hpq := yOf_eq op
  have hrp := rpCode_rpOf (pOf op) (pOf_lt op)
  unfold decodeX0
  rw [join_hi_lo]
  split
  case h_1 hz =>
    split
    case h_5 hy0 hy1 hy2 hy3 =>
      have hne : yOf op ≠ 0 ∧ yOf op ≠ 1 ∧ yOf op ≠ 2 ∧ yOf op ≠ 3 := ⟨hy0, hy1, hy2, hy3⟩
      have hcc := ccCode_ccOf (yOf op - 4) (by omega)
      exact isPrefix_of_fields (encode_jrCc _ _) (by omega) ⟨_, rfl⟩
    all_goals exact isPrefix_of_opcode rfl hx ‹_› hz ⟨_, rfl⟩
  case h_2 hz =>
    split
    case h_1 hq => exact isPrefix_of_fields (encode_ldRp _ _) (by omega) ⟨_, rfl⟩
    case h_2 hq =>
      have hq := qOf_eq_one hq
      exact isPrefix_of_fields (encode_addHl _) (by omega) ⟨_, rfl⟩
  case h_3 hz =>
    interval_cases hy : yOf op
    all_goals exact isPrefix_of_opcode rfl hx hy hz ⟨_, rfl⟩
  case h_4 hz =>
    split
    case h_1 hq => exact isPrefix_of_fields (encode_incRp _) (by omega) ⟨_, rfl⟩
    case h_2 hq =>
      have hq := qOf_eq_one hq
      exact isPrefix_of_fields (encode_decRp _) (by omega) ⟨_, rfl⟩
  case h_5 hz =>
    exact isPrefix_of_fields (encode_withR8 (fun k => [BitVec.ofNat 8 (0x04 + 8 * k)]) hlt encode_incR rfl)
      (by omega) ⟨_, rfl⟩
  case h_6 hz =>
    exact isPrefix_of_fields (encode_withR8 (fun k => [BitVec.ofNat 8 (0x05 + 8 * k)]) hlt encode_decR rfl)
      (by omega) ⟨_, rfl⟩
  case h_7 hz =>
    exact isPrefix_of_fields (encode_withR8 (fun k => [BitVec.ofNat 8 (0x06 + 8 * k), loByte nn]) hlt
      (encode_ldRN · _) rfl) (by omega) ⟨_, rfl⟩
  case h_8 hz0 hz1 hz2 hz3 hz4 hz5 hz6 =>
    have hz := selector_eq_seven (zOf_lt op) hz0 hz1 hz2 hz3 hz4 hz5 hz6
    interval_cases hy : yOf op
    all_goals exact isPrefix_of_opcode rfl hx hy hz ⟨_, rfl⟩

theorem encode_decodeX1_isPrefix {op : Byte} (hx : xOf op = 1) (u : List Byte) : encode (decodeX1 op) <+: op :: u := by
  have hylt := yOf_lt op
  have hzlt := zOf_lt op
  unfold decodeX1
  split
  case h_1 y z hy hz =>
    have hy := regCode_r8Of hylt hy
    have hz := regCode_r8Of hzlt hz
    exact isPrefix_of_fields (encode_ldRR _ _) (by omega) ⟨_, rfl⟩
  case h_2 y hy hz =>
    have hy := regCode_r8Of hylt hy
    have hz := r8Of_eq_none hz
    exact isPrefix_of_fields (encode_ldRM _) (by omega) ⟨_, rfl⟩
  case h_3 z hy hz =>
    have hy := r8Of_eq_none hy
    have hz := regCode_r8Of hzlt hz
    exact isPrefix_of_fields (encode_ldMR _) (by omega) ⟨_, rfl⟩
  case h_4 hy hz => exact isPrefix_of_opcode rfl hx (r8Of_eq_none hy) (r8Of_eq_none hz) ⟨_, rfl⟩

theorem encode_decodeX3_isPrefix {op : Byte} (hx : xOf op = 3) (nn : Word) :
    encode (decodeX3 op (loByte nn) (hiByte nn)) <+: [op, loByte nn, hiByte nn] := by
  have hlt := yOf_lt op
  have hpq := yOf_eq op
  have hq : qOf op = 0 ∨ qOf op = 1 := Nat.mod_two_eq_zero_or_one _
  have hp4 := pOf_lt op
  have hrp := rp2Code_rp2Of (pOf op) (pOf_lt op)
  have hcc (h4 : yOf op ≠ 4) (h5 : yOf op ≠ 5) (h6 : yOf op ≠ 6) (h7 : yOf op ≠ 7) :
      ccCode (ccOf (yOf op)) = yOf op := ccCode_ccOf _ (by omega)
  unfold decodeX3
  rw [join_hi_lo]
  split
  case h_1 hz =>
    split
    case h_5 hy4 hy5 hy6 hy7 =>
      have hcc := hcc hy4 hy5 hy6 hy7
      exact isPrefix_of_fields (encode_retCc _) (by omega) ⟨_, rfl⟩
    all_goals exact isPrefix_of_opcode rfl hx ‹_› hz ⟨_, rfl⟩
  case h_2 hz =>
    rcases hq with hq | hq
    · simp only [hq]
      exact isPrefix_of_fields (encode_pop _) (by omega) ⟨_, rfl⟩
    · rw [hq]
      interval_cases hp : pOf op
      all_goals exact isPrefix_of_opcode rfl hx (yOf_congr hp hq) hz ⟨_, rfl⟩
  case h_3 hz =>
    split
    case h_5 hy4 hy5 hy6 hy7 =>
      have hcc := hcc hy4 hy5 hy6 hy7
      exact isPrefix_of_fields (encode_jpCc _ _) (by omega) ⟨_, rfl⟩
    all_goals exact isPrefix_of_opcode rfl hx ‹_› hz ⟨_, rfl⟩
  case h_4 hz =>
    split
    case h_2 hy => exact isPrefix_of_opcode (encode_decodeExt _) hx hy hz ⟨_, rfl⟩
    case h_8 hy0 hy1 hy2 hy3 hy4 hy5 hy6 =>
      exact isPrefix_of_opcode rfl hx (selector_eq_seven hlt hy0 hy1 hy2 hy3 hy4 hy5 hy6) hz ⟨_, rfl⟩
    all_goals exact isPrefix_of_opcode rfl hx ‹_› hz ⟨_, rfl⟩
  case h_5 hz =>
    split
    case h_5 hy4 hy5 hy6 hy7 =>
      have hcc := hcc hy4 hy5 hy6 hy7
      exact isPrefix_of_fields (encode_callCc _ _) (by omega) ⟨_, rfl⟩
    all_goals exact isPrefix_of_opcode rfl hx ‹_› hz ⟨_, rfl⟩
  case h_6 hz =>
    rcases hq with hq | hq
    · simp only [hq]
      exact isPrefix_of_fields (encode_push _) (by omega) ⟨_, rfl⟩
    · rw [hq]
      interval_cases hp : pOf op
      all_goals exact isPrefix_of_opcode rfl hx (yOf_congr hp hq) hz ⟨_, rfl⟩
  case h_7 hz =>
    have halu := aluCode_aluOf (yOf op) hlt
    exact isPrefix_of_fields (encode_aluN _ _) (by omega) ⟨_, rfl⟩
  case h_8 hz0 hz1 hz2 hz3 hz4 hz5 hz6 =>
    have hz := selector_eq_seven (zOf_lt op) hz0 hz1 hz2 hz3 hz4 hz5 hz6
    have hoct := octNat_octOf (yOf op) hlt
    exact isPrefix_of_fields (encode_rst _) (by omega) ⟨_, rfl⟩

/-- The decoder uses the bytes it is given from the front, in order, and every bit of those it uses (rules R151,
R152). -/
theorem encode_decodeBytes_isPrefix (op n1 n2 : Byte) : encode (decodeBytes op n1 n2) <+: [op, n1, n2] := by
  obtain ⟨nn, rfl, rfl⟩ : ∃ nn, n1 = loByte nn ∧ n2 = hiByte nn :=
    ⟨join n2 n1, (loByte_join ..).symm, (hiByte_join ..).symm⟩
  have halu := aluCode_aluOf (yOf op) (yOf_lt op)
  unfold decodeBytes
  split
  case h_1 hx => exact encode_decodeX0_isPrefix hx nn
  case h_2 hx => exact encode_decodeX1_isPrefix hx _
  case h_3 hx =>
    exact isPrefix_of_fields (encode_withR8 (fun k => [BitVec.ofNat 8 (0x80 + 8 * aluCode (aluOf (yOf op)) + k)])
      (zOf_lt op) (encode_aluR _) (by rw [encode_aluM, Nat.add_right_comm])) (by omega) ⟨_, rfl⟩
  case h_4 hx0 hx1 hx2 =>
    exact encode_decodeX3_isPrefix (xOf_eq_three hx0 hx1 hx2) nn

/-! ### An instruction is its opcode and its operand bytes, as many as the opcode says (rule R143) -/

/-- The instruction of an opcode and the bytes after it: what `decode` answers when they are as many as rule R143 says
(`decode_append`). -/
def instrOf (op : Byte) (operands : List Byte) : Instr :=
  decodeBytes op (operands.headD 0#8) (operands.tail.headD 0#8)

theorem instrOf_word {op : Byte} {mk : Word → Instr} (h : ∀ lo hi, decodeBytes op lo hi = mk (join hi lo)) (nn : Word) :
    instrOf op [loByte nn, hiByte nn] = mk nn := (h ..).trans (congrArg mk (join_hi_lo nn))

/-- The encoder, row by row of the table: the opcode, as many operand bytes as it wants, and they decode to the
instruction. Only a word operand is put together again. -/
theorem encode_shape {i : Instr} (hi : i ≠ .cb_page) :
    ∃ op t, encode i = op :: t ∧ t.length + 1 = opcodeLength op ∧ instrOf op t = i := by
  cases i
  case cb_page => exact absurd rfl hi
  case ld_bc_d16 nn | ld_de_d16 nn | ld_hl_d16 nn | ld_sp_d16 nn | ld_atA16_sp nn | ld_atA16_a nn | ld_a_atA16 nn
      | jp_a16 nn | jp_nz_a16 nn | jp_z_a16 nn | jp_nc_a16 nn | jp_c_a16 nn | call_a16 nn | call_nz_a16 nn
      | call_z_a16 nn | call_nc_a16 nn | call_c_a16 nn =>
    exact ⟨_, _, rfl, rfl, instrOf_word (fun _ _ => rfl) nn⟩
  all_goals exact ⟨_, _, rfl, rfl, rfl⟩

/-- A decoded instruction is encoded in as many of the bytes as the opcode says. -/
theorem encode_decodeBytes (op n1 n2 : Byte) :
    encode (decodeBytes op n1 n2) = [op, n1, n2].take (opcodeLength op) := by
  have hpre := encode_decodeBytes_isPrefix op n1 n2
  obtain ⟨c, t, henc, hlen, -⟩ := encode_shape (decodeBytes_ne_cb_page op n1 n2)
  rw [henc] at hpre ⊢
  obtain ⟨rfl, -⟩ := List.cons_prefix_cons.1 hpre
  rw [← hlen, ← List.length_cons]
  exact List.prefix_iff_eq_take.1 hpre

theorem opcodeLength_pos_le (op : Byte) : 1 ≤ opcodeLength op ∧ opcodeLength op ≤ 3 := by
  unfold opcodeLength
  split
  · decide
  · split <;> decide

theorem operands_cases {op : Byte} {t : List Byte} (h : t.length + 1 = opcodeLength op) :
    t = [] ∨ (∃ n1, t = [n1]) ∨ ∃ n1 n2, t = [n1, n2] := by
  have hle := (opcodeLength_pos_le op).2
  rcases t with _ | ⟨n1, _ | ⟨n2, _ | ⟨n3, t⟩⟩⟩
  · exact .inl rfl
  · exact .inr (.inl ⟨n1, rfl⟩)
  · exact .inr (.inr ⟨n1, n2, rfl⟩)
  · simp only [List.length_cons] at h
    omega

theorem exists_operands {op : Byte} {bytes : List Byte} (h : opcodeLength op ≤ bytes.length + 1) :
    ∃ t rest, bytes = t ++ rest ∧ t.length + 1 = opcodeLength op := by
  have hpos := (opcodeLength_pos_le op).1
  refine ⟨bytes.take (opcodeLength op - 1), bytes.drop (opcodeLength op - 1), (List.take_append_drop ..).symm, ?_⟩
  rw [List.length_take]
  omega

theorem encode_instrOf {op : Byte} {t : List Byte} (h : t.length + 1 = opcodeLength op) :
    encode (instrOf op t) = op :: t := by
  rw [instrOf, encode_decodeBytes, ← h]
  obtain rfl | ⟨n1, rfl⟩ | ⟨n1, n2, rfl⟩ := operands_cases h
  all_goals rfl

/-! ### `decode`, said once: it takes the bytes the opcode wants, or refuses -/

theorem decode_append {op : Byte} {t : List Byte} (h : t.length + 1 = opcodeLength op) (rest : List Byte) :
    decode (op :: (t ++ rest)) = .ok (instrOf op t, rest) := by
  simp only [decode, ← h]
  obtain rfl | ⟨n1, rfl⟩ | ⟨n1, n2, rfl⟩ := operands_cases h
  all_goals rfl

theorem decode_truncated {op : Byte} {rest : List Byte} (h : rest.length + 1 < opcodeLength op) :
    decode (op :: rest) = .error (.truncated op) := by
  simp only [decode]
  split
  case h_1 hn => omega
  case h_2 hn =>
    rw [List.length_cons] at h
    omega
  case h_3 hn =>
    rw [List.length_cons, List.length_cons] at h
    omega
  case h_4 => rfl

theorem decode_encode {i : Instr} (hi : i ≠ .cb_page) (rest : List Byte) :
    decode (encode i ++ rest) = .ok (i, rest) := by
  obtain ⟨op, t, henc, hlen, hop⟩ := encode_shape hi
  rw [henc, List.cons_append, decode_append hlen, hop]

/-- Settles O1: every instruction is encoded as an opcode and its operands (`encode_shape`), and `decode` takes just
those (`decode_append`). -/
theorem decodeOfEncodeIsTheInstruction : Obligations.DecodeOfEncodeIsTheInstruction :=
  fun _ rest hwf => decode_encode (of_decide_eq_true hwf) rest

/-- Settles O2: `decode` answers only when the opcode's operands are there, and what it answers is encoded in the opcode
and them (`encode_instrOf`). -/
theorem encodeOfDecodeIsTheBytes : Obligations.EncodeOfDecodeIsTheBytes := by
  intro bytes rest i h
  rcases bytes with _ | ⟨op, bytes⟩
  case nil => cases h
  case cons =>
    rcases Nat.lt_or_ge (bytes.length + 1) (opcodeLength op) with hfew | henough
    · cases (decode_truncated hfew).symm.trans h
    · obtain ⟨t, r, rfl, ht⟩ := exists_operands henough
      cases (decode_append ht r).symm.trans h
      exact ⟨decodeBytes_wf .., by rw [encode_instrOf ht, List.cons_append]⟩

/-- Settles O3: the lists of rule R143 agree with the tables of rule R148 on every opcode. -/
theorem lengthIsSetByTheOpcode : Obligations.LengthIsSetByTheOpcode := by
  intro op rest two three n
  have hn : n = opcodeLength op := by
    revert op
    decide
  rw [hn]
  refine ⟨fun henough => ?_, decode_truncated⟩
  obtain ⟨t, r, rfl, ht⟩ := exists_operands henough
  refine ⟨instrOf op t, ?_, by rw [encode_instrOf ht, List.length_cons, ht]⟩
  rw [decode_append ht, ← ht, List.drop_succ_cons, List.drop_left]

/-! ### The opcode map (rules R149, R156) -/

/-- The bytes of an instruction alone decode to it. -/
theorem decode_of_encode_eq {i : Instr} {bytes : List Byte} (henc : encode i = bytes) (hi : i ≠ .cb_page) :
    decode bytes = .ok (i, []) := by
  rw [← henc, ← List.append_nil (encode i), decode_encode hi]

/-- Settles O4: the grid is the decoder run on each row; the extended page follows from the encoder's bytes
(`decode_encode`). -/
theorem opcodeMapIsTheGridAndTheExtendedPage : Obligations.OpcodeMapIsTheGridAndTheExtendedPage := by
  refine ⟨fun n1 n2 => ⟨rfl, rfl, rfl, rfl, rfl, rfl, rfl, rfl, rfl, rfl, rfl, rfl, rfl, rfl, rfl, rfl⟩,
    fun op z => decode_of_encode_eq (encode_rotR op z) (family_rot_ne_cb_page op z).1,
    fun op => decode_of_encode_eq (encode_rotM op) (family_rot_ne_cb_page op .a).2, fun b z => ?_, fun b => ?_⟩
  · obtain ⟨hbit, hres, hset⟩ := family_bits_ne_cb_page b z
    exact ⟨decode_of_encode_eq (encode_bitR b z) hbit, decode_of_encode_eq (encode_resR b z) hres,
      decode_of_encode_eq (encode_setR b z) hset⟩
  · obtain ⟨hbit, hres, hset, -⟩ := family_oct_ne_cb_page b
    exact ⟨decode_of_encode_eq (encode_bitM b) hbit, decode_of_encode_eq (encode_resM b) hres,
      decode_of_encode_eq (encode_setM b) hset⟩

end Sys2Proof.Machine
end

section
/-! PROOFS. The 8-bit loads and stores (`40_load8.md`): their bytes and their next states, and the words of the spec's
encodings. -/

namespace Sys2Proof.Machine

/-! ### Words written out from the encodings -/

/-- Settles O5: each word is what its instruction is encoded in, and the bytes of an instruction decode to it
(`decode_of_encode_eq`). -/
theorem writtenOutWordsDecode : Obligations.WrittenOutWordsDecode :=
  ⟨decode_of_encode_eq rfl nofun, decode_of_encode_eq rfl nofun, decode_of_encode_eq rfl nofun,
    decode_of_encode_eq rfl nofun, decode_of_encode_eq rfl nofun, decode_of_encode_eq rfl nofun⟩

/-! ### The operands -/

/-- A word operand is encoded low byte first (rule R142). -/
theorem wordBytes_append (hi lo : Byte) : [loByte (hi ++ lo), hiByte (hi ++ lo)] = [lo, hi] := by
  rw [← join, loByte_join, hiByte_join]

/-! ### The shared operations, each as one next state -/

section Operations

variable (s : State)

theorem ldRegReg_eq_after (y z : Reg8) : ldRegReg y z s = s.after (s.regs.set y (s.regs.get z)) 4 := rfl

theorem ldRegImm_eq_after (y : Reg8) (n : Byte) : ldRegImm y n s = s.after (s.regs.set y n) 8 := rfl

theorem ldRegMem_eq_after (y : Reg8) (a : Word) (k : Nat) :
    ldRegMem y a k s = s.after (s.regs.set y (memRead s a)) k := rfl

theorem ldAHlStep_eq_after (d : Word) :
    ldAHlStep d s = s.after ({ s.regs with a := memRead s s.regs.hl }.setHl (s.regs.hl + d)) 8 := rfl

/-- A Bus write leaves the registers (`memWrite_regs`), so those after a store are those before it. -/
theorem ldMem_eq_after (a : Word) (v : Byte) (k : Nat) : ldMem a v k s = (memWrite s a v).after s.regs k :=
  congrArg ((memWrite s a v).after · k) (memWrite_regs s a v)

theorem ldHlStep_eq_after (d : Word) :
    ldHlStep d s = (memWrite s s.regs.hl s.regs.a).after (s.regs.setHl (s.regs.hl + d)) 8 :=
  congrArg (fun g : Regs => (memWrite s s.regs.hl s.regs.a).after (g.setHl (g.hl + d)) 8) (memWrite_regs ..)

end Operations

/-! ### Loads into a register, and stores -/

/-- Settles O7: each load is one of the operations that write registers and the count. -/
theorem loadsIntoRegisters : Obligations.LoadsIntoRegisters := by
  intro s hl
  have load {i : Instr} {a : Word} {k : Nat} (h : exec i s = .next (ldRegMem .a a k s)) :
      exec i s = .next (s.after { s.regs with a := memRead s a } k) := h.trans (congrArg _ (ldRegMem_eq_after ..))
  have loadPage {i : Instr} {n : Byte} {k : Nat} (h : exec i s = .next (ldRegMem .a (pageAddr n) k s)) :
      exec i s = .next (s.after { s.regs with a := memRead s (pageAddress n) } k) := by rw [load h, pageAddr_eq]
  have loadStep {i : Instr} {d : Word} (h : exec i s = .next (ldAHlStep d s)) :
      exec i s = .next (s.after ({ s.regs with a := memRead s hl }.setHl (hl + d)) 8) :=
    h.trans (congrArg _ (ldAHlStep_eq_after ..))
  refine ⟨fun y z => ⟨encode_ldRR y z, ?_⟩, fun y n => ⟨encode_ldRN y n, ?_⟩, fun y => ⟨encode_ldRM y, ?_⟩,
    ⟨rfl, load rfl⟩, ⟨rfl, load rfl⟩,
    fun hi lo => ⟨congrArg (0xFA#8 :: ·) (wordBytes_append hi lo), load rfl⟩,
    fun n => ⟨rfl, loadPage rfl⟩, ⟨rfl, loadPage rfl⟩, ⟨rfl, loadStep rfl⟩, ⟨rfl, ?_⟩⟩
  · rw [exec_ldRR, ldRegReg_eq_after]
  · rw [exec_ldRN, ldRegImm_eq_after]
  · rw [exec_ldRM, ldRegMem_eq_after]
  · rw [BitVec.sub_eq_add_neg]
    exact loadStep rfl

/-- Settles O8: each store is one Bus write, which leaves the registers (`ldMem_eq_after`, `ldHlStep_eq_after`). -/
theorem storesFromRegisters : Obligations.StoresFromRegisters := by
  intro s hl
  have store {i : Instr} {a : Word} {v : Byte} {k : Nat} (h : exec i s = .next (ldMem a v k s)) :
      exec i s = .next ((memWrite s a v).after s.regs k) := h.trans (congrArg _ (ldMem_eq_after ..))
  have storePage {i : Instr} {n v : Byte} {k : Nat} (h : exec i s = .next (ldMem (pageAddr n) v k s)) :
      exec i s = .next ((memWrite s (pageAddress n) v).after s.regs k) := by rw [store h, pageAddr_eq]
  have storeStep {i : Instr} {d : Word} (h : exec i s = .next (ldHlStep d s)) :
      exec i s = .next ((memWrite s hl s.regs.a).after (s.regs.setHl (hl + d)) 8) :=
    h.trans (congrArg _ (ldHlStep_eq_after ..))
  refine ⟨fun z => ⟨encode_ldMR z, store (exec_ldMR s z)⟩, fun n => ⟨rfl, store rfl⟩, ⟨rfl, store rfl⟩,
    ⟨rfl, store rfl⟩, fun hi lo => ⟨congrArg (0xEA#8 :: ·) (wordBytes_append hi lo), store rfl⟩,
    fun n => ⟨rfl, storePage rfl⟩, ⟨rfl, storePage rfl⟩, ⟨rfl, storeStep rfl⟩, ⟨rfl, ?_⟩⟩
  rw [BitVec.sub_eq_add_neg]
  exact storeStep rfl

end Sys2Proof.Machine
end
section
/-! PROOFS. The 16-bit loads and the stack (`41_load16_stack.md`): their bytes and their next states, and a pop after a
push. -/

namespace Sys2Proof.Machine

/-! ### `AddRel` (rule R260) -/

theorem add_sext16 (base : Word) (e : Byte) : base + sext16 e = BitVec.ofInt 16 ((base.toNat : Int) + e.toInt) := by
  rw [BitVec.ofInt_add, BitVec.ofInt_natCast, BitVec.ofNat_toNat, BitVec.setWidth_eq]
  rfl

/-- The low byte of a sign-extended byte is that byte, also when it is negative. -/
theorem sext16_toNat_mod (e : Byte) : (sext16 e).toNat % 256 = e.toNat := by
  have he := e.isLt
  rw [sext16, BitVec.toNat_signExtend, BitVec.toNat_setWidth]
  split <;> omega

/-- Where two words and their sum have an odd number of ones, a carry has come in from the bits below. -/
theorem bit_xor_add {w i : Nat} (hi : i < w) (x y : BitVec w) :
    bit (x ^^^ y ^^^ (x + y)) i = decide (x.toNat % 2 ^ i + y.toNat % 2 ^ i ≥ 2 ^ i) := by
  have hcarry : bit (x ^^^ y ^^^ (x + y)) i = BitVec.carry i x y false := by
    rw [bit, BitVec.getLsbD_xor, BitVec.getLsbD_xor, BitVec.getLsbD_add hi]
    cases x.getLsbD i <;> cases y.getLsbD i <;> simp
  exact hcarry

/-- The three-way exclusive-or gives the carries out of bits 3 and 7 of the unsigned addition of the low bytes. -/
theorem addRel_eq (base : Word) (e : Byte) : addRel base e =
    { val := BitVec.ofInt 16 ((base.toNat : Int) + e.toInt)
      half := decide (base.toNat % 16 + e.toNat % 16 > 0xF)
      carry := decide (base.toNat % 256 + e.toNat > 0xFF) } := by
  have hlow := sext16_toNat_mod e
  have hnibble : (sext16 e).toNat % 16 = e.toNat % 16 := by omega
  have hhalf := bit_xor_add (by decide : 4 < 16) base (sext16 e)
  have hcarry := bit_xor_add (by decide : 8 < 16) base (sext16 e)
  rw [show 2 ^ 4 = 16 from rfl, hnibble] at hhalf
  rw [show 2 ^ 8 = 256 from rfl, hlow] at hcarry
  rw [addRel, hhalf, hcarry, add_sext16]
  rfl

/-! ### The shared operations, each as one next state -/

section Operations

variable (s : State)

theorem ldPair_eq_after (p : Rp) (nn : Word) : ldPair p nn s = s.after (s.regs.setRp p nn) 12 := rfl

theorem ldSpHl_eq_after : ldSpHl s = s.after { s.regs with sp := s.regs.hl } 8 := rfl

/-- The two Bus writes leave the registers (`memWrite_regs`). -/
theorem ldMemSp_eq_after (a : Word) : ldMemSp a s =
    (memWrite (memWrite s a (loByte s.regs.sp)) (a + 1#16) (hiByte s.regs.sp)).after s.regs 20 := by
  have hregs : (memWrite16 s a s.regs.sp).regs = s.regs := by rw [memWrite16, memWrite_regs, memWrite_regs]
  exact congrArg ((memWrite16 s a s.regs.sp).after · 20) hregs

theorem ldHlSp_eq_after (e : Byte) : ldHlSp e s =
    s.after { s.regs.setHl (BitVec.ofInt 16 ((s.regs.sp.toNat : Int) + e.toInt)) with
      f := flags false false (decide (s.regs.sp.toNat % 16 + e.toNat % 16 > 0xF))
        (decide (s.regs.sp.toNat % 256 + e.toNat > 0xFF)) } 12 := by
  rw [ldHlSp, addRel_eq]
  rfl

theorem pushPair_eq_after (p : Rp2) : pushPair p s =
    (memWrite (memWrite s (s.regs.sp - 1#16) (hiByte (s.regs.getRp2 p))) (s.regs.sp - 2#16)
      (loByte (s.regs.getRp2 p))).after { s.regs with sp := s.regs.sp - 2#16 } 16 := by
  rw [pushPair, push16_eq]
  rfl

theorem popPair_eq_after (p : Rp2) : popPair p s = s.after ((popRegs s.regs).setRp2 p (popVal s)) 12 := rfl

end Operations

/-! ### 16-bit loads, `PUSH` and `POP` -/

/-- Settles O9: each load is one of the operations above, and `addRel_eq` gives the flags of `LD HL,SP+e8`. -/
theorem sixteenBitLoads : Obligations.SixteenBitLoads := by
  intro s hi lo e sum
  refine ⟨fun p => ⟨?_, ?_⟩, ⟨congrArg (0x08#8 :: ·) (wordBytes_append hi lo), congrArg _ (ldMemSp_eq_after s _)⟩,
    ⟨rfl, congrArg Host.Outcome.next (ldSpHl_eq_after s)⟩, ⟨rfl, congrArg _ (ldHlSp_eq_after s e)⟩⟩
  · rw [encode_ldRp, wordBytes_append]
  · rw [exec_ldRp, ldPair_eq_after]

/-- Settles O10: `push16_eq` gives the two writes of a push; the word a pop reads is its two bytes joined. -/
theorem pushAndPop : Obligations.PushAndPop := by
  intro s p v popped
  refine ⟨⟨encode_push p, ?_⟩, encode_pop p, ?_⟩
  · rw [exec_push, pushPair_eq_after]
    rfl
  · rw [exec_pop, popPair_eq_after]
    rfl

/-! ### A pop after a push (rules R80, R200) -/

/-- The high byte of the pushed word is at the higher address. -/
theorem sub_two_add_one (a : Word) : a - 2#16 + 1#16 = a - 1#16 := by bv_omega

section

variable {s : State} (hhi : isStorage s (s.regs.sp - 1#16) = true) (hlo : isStorage s (s.regs.sp - 2#16) = true)
include hhi hlo

/-- The two cells below `SP` differ, so each byte of the pushed pair is there. -/
theorem memRead_pushPair (p : Rp2) :
    memRead (pushPair p s) (s.regs.sp - 1#16) = hiByte (s.regs.getRp2 p) ∧
      memRead (pushPair p s) (s.regs.sp - 2#16) = loByte (s.regs.getRp2 p) := by
  have hne : place s (s.regs.sp - 1#16) ≠ place s (s.regs.sp - 2#16) := by
    rw [← sub_two_add_one] at hhi ⊢
    exact (place_succ_ne hhi).symm
  rw [pushPair_eq_after]
  constructor
  · rw [memRead_after, memRead_twoStores hhi hlo, if_neg hne, if_pos rfl]
  · rw [memRead_after, memRead_twoStores hhi hlo, if_pos rfl]

/-- The word `Pop16` answers after a push is the pair that was pushed. -/
theorem popVal_pushPair (p : Rp2) : popVal (pushPair p s) = s.regs.getRp2 p := by
  obtain ⟨hhigh, hlow⟩ := memRead_pushPair hhi hlo p
  have hsp : (pushPair p s).regs.sp = s.regs.sp - 2#16 := by rw [pushPair_eq_after]
  rw [popVal, memRead16, hsp, sub_two_add_one, hhigh, hlow, join_hi_lo]

end

/-- A pop moves `SP` back to where it was before the push, and the push moved nothing else. -/
theorem popRegs_pushPair (s : State) (p : Rp2) : popRegs (pushPair p s).regs = s.regs := by
  rw [pushPair_eq_after]
  exact congrArg (fun sp => { s.regs with sp }) (BitVec.sub_add_cancel s.regs.sp 2#16)

/-- Settles O11: the pop starts from the registers of `popRegs_pushPair` and writes the word of `popVal_pushPair`. -/
theorem popAfterPushGivesThePair : Obligations.PopAfterPushGivesThePair := by
  intro s p q hhi hlo
  obtain ⟨hhigh, hlow⟩ := memRead_pushPair hhi hlo p
  refine ⟨_, _, exec_push s p, exec_pop _ q, hhigh, hlow, ?_⟩
  rw [popPair_eq_after, popRegs_pushPair, popVal_pushPair hhi hlo]

end Sys2Proof.Machine
end
section
/-! PROOFS. 8-bit arithmetic and logic (`42_alu8.md`): the bytes and the next states, and the decimal law of `DAA`. -/

namespace Sys2Proof.Machine

/-! ### Low nibbles (rule R220) -/

/-- The rules mask the low nibble where the model takes the remainder. -/
theorem and_nibble (n : Nat) : n &&& 0xF = n % 16 := Nat.and_two_pow_sub_one_eq_mod n 4

theorem toNat_and_nibble (v : Byte) : (v &&& 0xF#8).toNat = v.toNat % 16 := and_nibble v.toNat

theorem and_nibble_eq_iff (v : Byte) {n : Byte} : v &&& 0xF#8 = n ↔ v.toNat % 16 = n.toNat := by
  rw [← BitVec.toNat_inj, toNat_and_nibble]

/-! ### The bits of a flag byte (rules R11, R21) -/

section FlagBits

variable (z n h c : Bool)

@[simp] theorem bit_flags_zero : bit (flags z n h c) 7 = z := by cases z <;> cases n <;> cases h <;> cases c <;> rfl

@[simp] theorem bit_flags_subtract : bit (flags z n h c) 6 = n := by
  cases z <;> cases n <;> cases h <;> cases c <;> rfl

@[simp] theorem bit_flags_halfCarry : bit (flags z n h c) 5 = h := by
  cases z <;> cases n <;> cases h <;> cases c <;> rfl

@[simp] theorem bit_flags_carry : bit (flags z n h c) 4 = c := by cases z <;> cases n <;> cases h <;> cases c <;> rfl

end FlagBits

/-! ### Exact sums and differences as bytes -/

theorem ofNat_toNat_add (a : Byte) (n : Nat) : BitVec.ofNat 8 (a.toNat + n) = a + BitVec.ofNat 8 n := by
  rw [BitVec.ofNat_add, BitVec.ofNat_toNat, BitVec.setWidth_eq]

theorem ofInt_toNat_sub (a : Byte) (n : Nat) : BitVec.ofInt 8 ((a.toNat : Int) - n) = a - BitVec.ofNat 8 n := by
  apply BitVec.eq_of_toInt_eq
  rw [BitVec.toInt_ofInt, BitVec.toInt_sub, BitVec.toInt_eq_toNat_bmod, BitVec.toInt_ofNat', Int.sub_bmod_bmod,
    Int.bmod_sub_bmod]

/-- Two bytes differ by less than 256, so their difference is 0 modulo 256 for equal bytes only. -/
theorem sub_mod_eq_zero_iff (a v : Byte) : ((a.toNat : Int) - v.toNat) % 256 = 0 ↔ a = v := by
  have ha := a.isLt
  have hv := v.isLt
  rw [← BitVec.toNat_inj]
  omega

/-! ### The eight accumulator operations, as the rules write their flags -/

/-- `ADC` (rule R222); with no carry in, `ADD` (rule R221). -/
theorem addFlags_eq (a v : Byte) (c : Bool) : addFlags a v c =
    { val := BitVec.ofNat 8 (a.toNat + v.toNat + bitNat c)
      flg := flags (decide ((a.toNat + v.toNat + bitNat c) % 256 = 0)) false
        (decide ((a.toNat &&& 0xF) + (v.toNat &&& 0xF) + bitNat c > 0xF))
        (decide (a.toNat + v.toNat + bitNat c > 0xFF)) } := by
  rw [and_nibble, and_nibble]
  rfl

/-- `SBC` (rule R224). -/
theorem subFlags_eq (a v : Byte) (c : Bool) : subFlags a v c =
    { val := BitVec.ofInt 8 ((a.toNat : Int) - v.toNat - bitNat c)
      flg := flags (decide (((a.toNat : Int) - v.toNat - bitNat c) % 256 = 0)) true
        (decide ((a.toNat &&& 0xF) < (v.toNat &&& 0xF) + bitNat c)) (decide (a.toNat < v.toNat + bitNat c)) } := by
  rw [and_nibble, and_nibble]
  rfl

/-- `SUB` (rule R223): with no borrow in, the difference is that of the bytes, and it is 0 for equal bytes only. -/
theorem subFlags_false (a v : Byte) : subFlags a v false =
    { val := a - v
      flg := flags (decide (a = v)) true (decide ((a.toNat &&& 0xF) < (v.toNat &&& 0xF)))
        (decide (a.toNat < v.toNat)) } := by
  have hborrow : ((a.toNat : Int) - v.toNat - bitNat false) = a.toNat - v.toNat := Int.sub_zero _
  rw [subFlags_eq, hborrow, ofInt_toNat_sub, BitVec.ofNat_toNat, BitVec.setWidth_eq]
  simp only [sub_mod_eq_zero_iff]
  rfl

/-- `CP` (rule R228) takes the flags of `SUB` and keeps `A`. -/
theorem alu_cp (a v : Byte) (c : Bool) : alu .cp a v c =
    { val := a
      flg := flags (decide (a = v)) true (decide ((a.toNat &&& 0xF) < (v.toNat &&& 0xF)))
        (decide (a.toNat < v.toNat)) } := by
  rw [alu, subFlags_false]

/-- Every form of an accumulator operation writes the result byte to `A`, the flag byte to `F`, and its count. -/
theorem AluForm.next {op : AluOp} {s : State} {i : Instr} {bytes : List Byte} {v : Byte} {k : Nat} {r : Res8}
    (h : AluForm op s i bytes v k) (hr : alu op s.regs.a v s.regs.fC = r) :
    encode i = bytes ∧ exec i s = .next (s.after { s.regs with a := r.val, f := r.flg } k) := by
  subst hr
  cases h with
  | reg z => exact ⟨encode_aluR op z, exec_aluR s op z⟩
  | mem => exact ⟨encode_aluM op, exec_aluM s op⟩
  | imm => exact ⟨encode_aluN op v, exec_aluN s op v⟩

/-- Settles O12: both are the sum of `addFlags_eq`, `ADD` with no carry in. -/
theorem addAndAdc : Obligations.AddAndAdc := fun s _ _ v _ =>
  ⟨fun h => h.next (addFlags_eq s.regs.a v false), fun h => h.next (addFlags_eq s.regs.a v s.regs.fC)⟩

/-- Settles O13: `SBC` is the difference of `subFlags_eq`, `SUB` that of `subFlags_false`, and `CP` is `alu_cp`. -/
theorem subSbcAndCp : Obligations.SubSbcAndCp := fun s _ _ v _ =>
  ⟨fun h => h.next (subFlags_false s.regs.a v), fun h => h.next (subFlags_eq s.regs.a v s.regs.fC),
    fun h => h.next (alu_cp s.regs.a v s.regs.fC)⟩

/-! ### Logic, and the instructions on the flags alone -/

section Operations

variable (s : State)

theorem complement_eq_after : complement s =
    s.after { s.regs with a := s.regs.a ^^^ 0xFF#8, f := flags s.regs.fZ true true s.regs.fC } 4 := rfl

theorem setCarry_eq_after (c : Bool) :
    setCarry c s = s.after { s.regs with f := flags s.regs.fZ false false c } 4 := rfl

end Operations

/-- Settles O14: the three accumulator operations are `logicFlags` of their result. -/
theorem logicAndFlagInstructions : Obligations.LogicAndFlagInstructions := fun s _ _ v _ =>
  ⟨fun h => h.next (r := logicFlags (s.regs.a &&& v) true) rfl,
    fun h => h.next (r := logicFlags (s.regs.a ^^^ v) false) rfl,
    fun h => h.next (r := logicFlags (s.regs.a ||| v) false) rfl,
    ⟨rfl, congrArg Host.Outcome.next (complement_eq_after s)⟩,
    ⟨rfl, congrArg Host.Outcome.next (setCarry_eq_after s true)⟩,
    ⟨rfl, congrArg Host.Outcome.next (setCarry_eq_after s (!s.regs.fC))⟩⟩

/-! ### Increment and decrement -/

theorem inc8_eq (v : Byte) (c : Bool) : inc8 v c =
    { val := v + 1#8, flg := flags (decide (v + 1#8 = 0#8)) false (decide (v &&& 0xF#8 = 0xF#8)) c } := by
  simp only [and_nibble_eq_iff]
  rfl

theorem dec8_eq (v : Byte) (c : Bool) : dec8 v c =
    { val := v - 1#8, flg := flags (decide (v - 1#8 = 0#8)) true (decide (v &&& 0xF#8 = 0#8)) c } := by
  simp only [and_nibble_eq_iff]
  rfl

/-- Settles O15: the results are those of `inc8_eq` and `dec8_eq`; on the byte at `HL`, `modifyHl_after` gives the one
write. -/
theorem incAndDecKeepCarry : Obligations.IncAndDecKeepCarry := by
  intro s c hl up down
  refine ⟨fun y => ⟨encode_incR y, ?_⟩, fun y => ⟨encode_decR y, ?_⟩, ⟨rfl, ?_⟩, ⟨rfl, ?_⟩⟩
  · rw [exec_incR, incReg, inc8_eq]
    rfl
  · rw [exec_decR, decReg, dec8_eq]
    rfl
  · refine congrArg _ ((modifyHl_after ..).trans ?_)
    rw [inc8_eq]
    rfl
  · refine congrArg _ ((modifyHl_after ..).trans ?_)
    rw [dec8_eq]
    rfl

/-! ### Decimal adjust (rule R233) -/

section Daa

variable (a : Byte) (n h c : Bool)

theorem ofNat_daaLow : BitVec.ofNat 8 (daaLow a n h) =
    if h = true ∨ (n = false ∧ (a &&& 0x0F#8) > 0x09#8) then 0x06#8 else 0x00#8 := by
  have hgt : (a &&& 0x0F#8) > 0x09#8 ↔ a.toNat % 16 > 0x09 := by
    rw [gt_iff_lt, BitVec.lt_def, toNat_and_nibble]
    rfl
  simp only [daaLow, Bool.or_eq_true, Bool.and_eq_true, Bool.not_eq_true', decide_eq_true_eq, hgt]
  split <;> rfl

theorem daaHigh_eq : daaHigh a n c = decide (c = true ∨ (n = false ∧ a > 0x99#8)) := by
  have hgt : a > 0x99#8 ↔ a.toNat > 0x99 := Iff.rfl
  cases n <;> cases c <;> simp [daaHigh, hgt]

theorem daa_val : (daa a n h c).val =
    if n = true then a - (BitVec.ofNat 8 (daaLow a n h) + if daaHigh a n c = true then 0x60#8 else 0x00#8)
    else a + (BitVec.ofNat 8 (daaLow a n h) + if daaHigh a n c = true then 0x60#8 else 0x00#8) := by
  have hhigh : BitVec.ofNat 8 (if daaHigh a n c = true then 0x60 else 0) =
      if daaHigh a n c = true then 0x60#8 else 0x00#8 := by split <;> rfl
  rw [← hhigh, ← BitVec.ofNat_add, ← ofInt_toNat_sub, ← ofNat_toNat_add]
  rfl

variable {a n h c} in
theorem daa_eq_of {r : Byte} {high : Bool} (hval : (daa a n h c).val = r) (hhigh : daaHigh a n c = high) :
    daa a n h c = { val := r, flg := flags (decide (r = 0#8)) n false high } := by
  subst hval hhigh
  rfl

end Daa

/-- `DAA` writes the result byte to `A` and the flag byte to `F`. -/
theorem exec_daa_of {s : State} {r : Res8} (hr : daa s.regs.a s.regs.fN s.regs.fH s.regs.fC = r) :
    exec .daa s = .next (s.after { s.regs with a := r.val, f := r.flg } 4) := by
  subst hr
  rfl

/-- Settles O16: `ofNat_daaLow` and `daaHigh_eq` give the two steps, both from `A` as it was. -/
theorem daaFollowsItsTwoBranches : Obligations.DaaFollowsItsTwoBranches := by
  intro s a n h c low step high r
  have hstep : daaHigh a n c = decide step := daaHigh_eq a n c
  have hlow : BitVec.ofNat 8 (daaLow a n h) = low := ofNat_daaLow a n h
  have hval : (daa a n h c).val = r := by
    rw [daa_val, hlow, hstep]
    simp only [decide_eq_true_eq]
    rfl
  exact ⟨rfl, exec_daa_of (daa_eq_of hval hstep)⟩

/-! ### `DAA` after `ADC` and `SBC` of packed-decimal bytes

Digit by digit: `t` is the sum or difference of the tens, `u` that of the units with the carry or borrow in. The binary
result is `16 * t + u`, the decimal one `10 * t + u`. -/

/-- The packed-decimal byte of a number below 100. -/
def bcd (k : Nat) : Byte := BitVec.ofNat 8 (16 * (k / 10) + k % 10)

theorem toNat_bcd {k : Nat} (hk : k < 100) : (bcd k).toNat = 16 * (k / 10) + k % 10 := by
  rw [bcd, BitVec.toNat_ofNat]
  omega

/-- The idea of the adjustment: where `j` is carried out of the units and `k` out of the tens, 6 for each `j` and 0x60
for each `k` leave the decimal digits in the nibbles, up to the `256 * k` that a byte drops. -/
theorem adjusted_digits {t u j k : Int} (hu : 0 ≤ u - 10 * j ∧ u - 10 * j ≤ 9)
    (ht : 0 ≤ t + j - 10 * k ∧ t + j - 10 * k ≤ 9) :
    (16 * t + u + 6 * j + 0x60 * k) % 256 = 16 * ((10 * t + u) % 100 / 10) + (10 * t + u) % 100 % 10 := by
  have hdecimal : (10 * t + u) % 100 = 10 * (t + j - 10 * k) + (u - 10 * j) := by omega
  have htens : (10 * t + u) % 100 / 10 = t + j - 10 * k := by omega
  omega

theorem ofInt_adjusted {t u j k : Int} (hu : 0 ≤ u - 10 * j ∧ u - 10 * j ≤ 9)
    (ht : 0 ≤ t + j - 10 * k ∧ t + j - 10 * k ≤ 9) :
    BitVec.ofInt 8 (16 * t + u) + BitVec.ofInt 8 (6 * j + 0x60 * k) = bcd ((10 * t + u) % 100).toNat := by
  have hdigits := adjusted_digits hu ht
  obtain ⟨d, hd⟩ := Int.eq_ofNat_of_zero_le (Int.emod_nonneg (10 * t + u) (by decide : (100 : Int) ≠ 0))
  rw [hd, Int.add_assoc] at hdigits
  have hbyte : (bcd d).toNat = 16 * (d / 10) + d % 10 := toNat_bcd (by omega)
  rw [hd, Int.toNat_natCast, ← BitVec.ofInt_add]
  apply BitVec.eq_of_toNat_eq
  rw [BitVec.toNat_ofInt, hbyte]
  omega

/-- With borrows `j` and `k` in place of carries. -/
theorem ofInt_adjusted_sub {t u j k : Int} (hu : 0 ≤ u + 10 * j ∧ u + 10 * j ≤ 9)
    (ht : 0 ≤ t - j + 10 * k ∧ t - j + 10 * k ≤ 9) :
    BitVec.ofInt 8 (16 * t + u) - BitVec.ofInt 8 (6 * j + 0x60 * k) = bcd ((10 * t + u) % 100).toNat := by
  have hneg : 6 * -j + 0x60 * -k = -(6 * j + 0x60 * k) := by omega
  rw [BitVec.sub_eq_add_neg, ← BitVec.ofInt_neg, ← hneg]
  exact ofInt_adjusted (by omega) (by omega)

/-- After an addition `DAA` adds 6 exactly when the units carry, and 0x60 exactly when the decimal sum has three
digits. -/
theorem daa_of_digit_sums {t u : Nat} (ht : t ≤ 18) (hu : u ≤ 19) :
    daa (BitVec.ofNat 8 (16 * t + u)) false (decide (u > 0xF)) (decide (16 * t + u > 0xFF)) =
      { val := bcd ((10 * t + u) % 100)
        flg := flags (decide (bcd ((10 * t + u) % 100) = 0#8)) false false (decide (100 ≤ 10 * t + u)) } := by
  have hcast : ((10 * t + u : Int) % 100).toNat = (10 * t + u) % 100 := rfl
  have hsum : BitVec.ofInt 8 (16 * t + u) = BitVec.ofNat 8 (16 * t + u) := rfl
  have ha : (BitVec.ofNat 8 (16 * t + u)).toNat = (16 * t + u) % 256 := BitVec.toNat_ofNat ..
  generalize BitVec.ofNat 8 (16 * t + u) = a at ha hsum
  have hlow : daaLow a false (decide (u > 0xF)) = if u > 9 then 0x06 else 0 := by
    have hcarry : (u > 0xF ∨ a.toNat % 16 > 9) ↔ u > 9 := by omega
    simp [daaLow, hcarry]
  have hhigh : daaHigh a false (decide (16 * t + u > 0xFF)) = decide (100 ≤ 10 * t + u) := by
    have hcarry : (16 * t + u > 0xFF ∨ a.toNat > 0x99) ↔ 100 ≤ 10 * t + u := by omega
    simp [daaHigh, ← hcarry]
  have hval : (daa a false (decide (u > 0xF)) (decide (16 * t + u > 0xFF))).val = bcd ((10 * t + u) % 100) := by
    rw [daa_val, hlow, hhigh, ← hcast, ← hsum]
    by_cases hunits : u > 9 <;> by_cases htens : 100 ≤ 10 * t + u <;> simp only [hunits, htens]
    · exact ofInt_adjusted (j := 1) (k := 1) (by omega) (by omega)
    · exact ofInt_adjusted (j := 1) (k := 0) (by omega) (by omega)
    · exact ofInt_adjusted (j := 0) (k := 1) (by omega) (by omega)
    · exact ofInt_adjusted (j := 0) (k := 0) (by omega) (by omega)
  exact daa_eq_of hval hhigh

/-- After a subtraction `DAA` takes off 6 exactly when the units borrow, and 0x60 exactly when the decimal difference is
negative. -/
theorem daa_of_digit_differences {t u : Int} (ht : -9 ≤ t ∧ t ≤ 9) (hu : -10 ≤ u ∧ u ≤ 9) :
    daa (BitVec.ofInt 8 (16 * t + u)) true (decide (u < 0)) (decide (16 * t + u < 0)) =
      { val := bcd ((10 * t + u) % 100).toNat
        flg := flags (decide (bcd ((10 * t + u) % 100).toNat = 0#8)) true false (decide (10 * t + u < 0)) } := by
  generalize ha : BitVec.ofInt 8 (16 * t + u) = a
  have hlow : daaLow a true (decide (u < 0)) = if u < 0 then 0x06 else 0 := by simp [daaLow]
  have hhigh : daaHigh a true (decide (16 * t + u < 0)) = decide (10 * t + u < 0) := by
    have hborrow : 16 * t + u < 0 ↔ 10 * t + u < 0 := by omega
    simp [daaHigh, hborrow]
  have hval : (daa a true (decide (u < 0)) (decide (16 * t + u < 0))).val = bcd ((10 * t + u) % 100).toNat := by
    rw [daa_val, hlow, hhigh, ← ha]
    by_cases hunits : u < 0 <;> by_cases htens : 10 * t + u < 0 <;> simp only [hunits, htens]
    · exact ofInt_adjusted_sub (j := 1) (k := 1) (by omega) (by omega)
    · exact ofInt_adjusted_sub (j := 1) (k := 0) (by omega) (by omega)
    · exact ofInt_adjusted_sub (j := 0) (k := 1) (by omega) (by omega)
    · exact ofInt_adjusted_sub (j := 0) (k := 0) (by omega) (by omega)
  exact daa_eq_of hval hhigh

/-- What `DAA` makes of the result and the flags of the instruction before it. -/
def daaAfter (r : Res8) : Res8 := daa r.val (bit r.flg 6) (bit r.flg 5) (bit r.flg 4)

theorem daaAfter_flags (v : Byte) (z n h c : Bool) : daaAfter { val := v, flg := flags z n h c } = daa v n h c := by
  rw [daaAfter, bit_flags_subtract, bit_flags_halfCarry, bit_flags_carry]

section Digits

variable {x y : Nat} (hx : x < 100) (hy : y < 100) (c : Bool)
include hx hy

theorem daaAfter_addFlags_bcd : ∃ z, daaAfter (addFlags (bcd x) (bcd y) c) =
    { val := bcd ((x + y + bitNat c) % 100), flg := flags z false false (decide (100 ≤ x + y + bitNat c)) } := by
  have hc : bitNat c ≤ 1 := by cases c <;> decide
  have hdaa := daa_of_digit_sums (t := x / 10 + y / 10) (u := x % 10 + y % 10 + bitNat c) (by omega) (by omega)
  have hbinary : (bcd x).toNat + (bcd y).toNat + bitNat c =
      16 * (x / 10 + y / 10) + (x % 10 + y % 10 + bitNat c) := by
    rw [toNat_bcd hx, toNat_bcd hy]
    omega
  have hnibbles : (bcd x).toNat % 16 + (bcd y).toNat % 16 = x % 10 + y % 10 := by
    rw [toNat_bcd hx, toNat_bcd hy]
    omega
  have hdecimal : 10 * (x / 10 + y / 10) + (x % 10 + y % 10 + bitNat c) = x + y + bitNat c := by omega
  rw [addFlags, daaAfter_flags, hbinary, hnibbles, hdaa, hdecimal]
  exact ⟨_, rfl⟩

theorem daaAfter_subFlags_bcd : ∃ z, daaAfter (subFlags (bcd x) (bcd y) c) =
    { val := bcd ((x + 100 - y - bitNat c) % 100), flg := flags z true false (decide (x < y + bitNat c)) } := by
  have hc : bitNat c ≤ 1 := by cases c <;> decide
  have hdaa := daa_of_digit_differences (t := (x / 10 : Int) - y / 10) (u := (x % 10 : Int) - y % 10 - bitNat c)
    (by omega) (by omega)
  have hbinary : ((bcd x).toNat : Int) - (bcd y).toNat - bitNat c =
      16 * ((x / 10 : Int) - y / 10) + ((x % 10 : Int) - y % 10 - bitNat c) := by
    rw [toNat_bcd hx, toNat_bcd hy]
    omega
  have hhalf : (bcd x).toNat % 16 < (bcd y).toNat % 16 + bitNat c ↔ (x % 10 : Int) - y % 10 - bitNat c < 0 := by
    rw [toNat_bcd hx, toNat_bcd hy]
    omega
  have hborrow : (bcd x).toNat < (bcd y).toNat + bitNat c ↔
      16 * ((x / 10 : Int) - y / 10) + ((x % 10 : Int) - y % 10 - bitNat c) < 0 := by omega
  have hdecimal : 10 * ((x / 10 : Int) - y / 10) + ((x % 10 : Int) - y % 10 - bitNat c) = x - y - bitNat c := by omega
  have hmod : ((x - y - bitNat c : Int) % 100).toNat = (x + 100 - y - bitNat c) % 100 := by omega
  have hless : (x - y - bitNat c : Int) < 0 ↔ x < y + bitNat c := by omega
  simp only [subFlags, daaAfter_flags, hbinary, hhalf, hborrow, hdaa, hdecimal, hmod, hless]
  exact ⟨_, rfl⟩

end Digits

/-- `DAA` right after an accumulator operation. -/
theorem exec_daa_aluOp {op : AluOp} {s : State} {v val : Byte} {k : Nat} {z n h c : Bool}
    (hr : daaAfter (alu op s.regs.a v s.regs.fC) = { val := val, flg := flags z n h c }) :
    ∃ u, exec .daa (aluOp op v k s) = .next u ∧ u.regs.a = val ∧ u.regs.f.getLsbD 4 = c :=
  ⟨_, exec_daa_of hr, rfl, bit_flags_carry z n h c⟩

/-- Settles O17: `DAA` adjusts what `ADC` leaves (`daaAfter_addFlags_bcd`) and what `SBC` leaves
(`daaAfter_subFlags_bcd`), digit by digit. -/
theorem daaAdjustsDecimalSumsAndDifferences : Obligations.DaaAdjustsDecimalSumsAndDifferences := by
  intro s x y hx hy packed c ha hb
  have hc : bitNat s.regs.fC = c := rfl
  obtain ⟨_, hadd⟩ := daaAfter_addFlags_bcd hx hy s.regs.fC
  obtain ⟨_, hsub⟩ := daaAfter_subFlags_bcd hx hy s.regs.fC
  rw [show bcd = packed from rfl, ← ha, ← hb, hc] at hadd hsub
  exact ⟨⟨_, (exec_daa_aluOp (op := .adc) hadd).imp fun _ => And.intro (exec_aluR s .adc .b)⟩,
    ⟨_, (exec_daa_aluOp (op := .sbc) hsub).imp fun _ => And.intro (exec_aluR s .sbc .b)⟩⟩

end Sys2Proof.Machine
end
section
/-! PROOFS. 16-bit arithmetic (`43_alu16.md`): the bytes and the next states. -/

namespace Sys2Proof.Machine

/-! ### The 16-bit sum (rule R261) -/

/-- The rule masks the low 12 bits where the model takes the remainder. -/
theorem and_low12 (n : Nat) : n &&& 0xFFF = n % 0x1000 := Nat.and_two_pow_sub_one_eq_mod n 12

theorem add16_eq (x y : Word) : add16 x y =
    { val := x + y
      half := decide ((x.toNat &&& 0xFFF) + (y.toNat &&& 0xFFF) > 0xFFF)
      carry := decide (x.toNat + y.toNat > 0xFFFF) } := by
  rw [and_low12, and_low12, BitVec.add_def]
  rfl

/-! ### The shared operations, each as one next state -/

section Operations

variable (s : State)

theorem addHlPair_eq_after (p : Rp) : addHlPair p s = s.after { s.regs.setHl (s.regs.hl + s.regs.getRp p) with
    f := flags s.regs.fZ false (decide ((s.regs.hl.toNat &&& 0xFFF) + ((s.regs.getRp p).toNat &&& 0xFFF) > 0xFFF))
      (decide (s.regs.hl.toNat + (s.regs.getRp p).toNat > 0xFFFF)) } 8 := by
  rw [addHlPair, add16_eq]
  rfl

theorem stepPair_eq_after (d : Word) (p : Rp) :
    stepPair d p s = s.after (s.regs.setRp p (s.regs.getRp p + d)) 8 := rfl

theorem addSp_eq_after (e : Byte) : addSp e s =
    s.after { s.regs with
      sp := BitVec.ofInt 16 ((s.regs.sp.toNat : Int) + e.toInt)
      f := flags false false (decide (s.regs.sp.toNat % 16 + e.toNat % 16 > 0xF))
        (decide (s.regs.sp.toNat % 256 + e.toNat > 0xFF)) } 16 := by
  rw [addSp, addRel_eq]
  rfl

end Operations

/-- Settles O18: `add16_eq` gives the flags of `ADD HL,rp` and `addRel_eq` those of `ADD SP,e8`; `INC` and `DEC` of a
pair are one operation, which writes the pair alone. -/
theorem sixteenBitArithmetic : Obligations.SixteenBitArithmetic := by
  intro s e hl
  refine ⟨fun p => ⟨⟨encode_addHl p, ?_⟩, ⟨encode_incRp p, ?_⟩, ⟨encode_decRp p, ?_⟩⟩,
    ⟨rfl, congrArg Host.Outcome.next (addSp_eq_after s e)⟩⟩
  · rw [exec_addHl, addHlPair_eq_after]
    rfl
  · rw [exec_incRp, stepPair_eq_after]
  · rw [exec_decRp, stepPair_eq_after, BitVec.sub_eq_add_neg]

end Sys2Proof.Machine
end
section
/-! PROOFS. Rotates, shifts, swap and bit operations (`44_rotate_shift_bit.md`): the bytes and the next states. -/

namespace Sys2Proof.Machine

/-! ### The bit moved out, and the results with their flags (rules R270 to R282) -/

theorem rotOut_eq_shiftOut (op : RotOp) (v : Byte) : rotOut op v = shiftOut op v := by cases op <;> rfl

/-- The accumulator rotates clear Zero (rules R270 to R273). -/
theorem rotAcc_eq (op : RotOp) (v : Byte) (c : Bool) :
    rotAcc op v c = { val := shiftResult op v c, flg := flags false false false (shiftOut op v) } := by
  rw [rotAcc, rotVal_eq_shiftResult, rotOut_eq_shiftOut]

/-- The extended page takes Zero from the result (rule R274). -/
theorem rot_eq (op : RotOp) (v : Byte) (c : Bool) :
    rot op v c = { val := shiftResult op v c,
                   flg := flags (decide (shiftResult op v c = 0#8)) false false (shiftOut op v) } := by
  rw [rot, rotVal_eq_shiftResult, rotOut_eq_shiftOut]

/-! ### The shared operations, each as one next state -/

section Operations

variable (s : State)

theorem rotateAcc_eq_after (op : RotOp) : rotateAcc op s =
    s.after { s.regs with
      a := shiftResult op s.regs.a s.regs.fC, f := flags false false false (shiftOut op s.regs.a) } 4 := by
  rw [rotateAcc, rotAcc_eq]
  rfl

theorem rotReg_eq_after (op : RotOp) (z : Reg8) : rotReg op z s =
    s.after { s.regs.set z (shiftResult op (s.regs.get z) s.regs.fC) with
      f := flags (decide (shiftResult op (s.regs.get z) s.regs.fC = 0#8)) false false
        (shiftOut op (s.regs.get z)) } 8 := by
  rw [rotReg, rot_eq]
  rfl

theorem rotHl_eq_after (op : RotOp) : rotHl op s =
    (memWrite s s.regs.hl (shiftResult op (readHl s) s.regs.fC)).after { s.regs with
      f := flags (decide (shiftResult op (readHl s) s.regs.fC = 0#8)) false false (shiftOut op (readHl s)) } 16 := by
  rw [rotHl, modifyHl_after, rot_eq]

theorem bitTest_eq_after (b : Oct) (v : Byte) (k : Nat) : bitTest b v k s =
    s.after { s.regs with f := flags (!v.getLsbD (octNat b)) false true s.regs.fC } k := rfl

theorem resReg_eq_after (b : Oct) (z : Reg8) : resReg b z s =
    s.after (s.regs.set z (s.regs.get z &&& ~~~ (1#8 <<< octNat b))) 8 := rfl

theorem setReg_eq_after (b : Oct) (z : Reg8) : setReg b z s =
    s.after (s.regs.set z (s.regs.get z ||| 1#8 <<< octNat b)) 8 := rfl

/-- The one Bus write leaves the registers (`memWrite_regs`), and with them the flags. -/
theorem resHl_eq_after (b : Oct) : resHl b s =
    (memWrite s s.regs.hl (readHl s &&& ~~~ (1#8 <<< octNat b))).after s.regs 16 :=
  ldMem_eq_after ..

/-- The one Bus write leaves the registers (`memWrite_regs`), and with them the flags. -/
theorem setHl_eq_after (b : Oct) : setHl b s =
    (memWrite s s.regs.hl (readHl s ||| 1#8 <<< octNat b)).after s.regs 16 :=
  ldMem_eq_after ..

end Operations

/-- Settles O19: each accumulator rotate is `rotateAcc` of its operation; the extended page is `rotReg_eq_after` on a
register and `rotHl_eq_after` on the byte at `HL`. -/
theorem rotatesAndShifts : Obligations.RotatesAndShifts := by
  intro s a c hl
  have accumulator {i : Instr} (op : RotOp) (h : exec i s = .next (rotateAcc op s)) :
      exec i s = .next (s.after { s.regs with
        a := shiftResult op a c, f := flags false false false (shiftOut op a) } 4) :=
    h.trans (congrArg _ (rotateAcc_eq_after s op))
  exact ⟨⟨rfl, accumulator .rlc rfl⟩, ⟨rfl, accumulator .rrc rfl⟩, ⟨rfl, accumulator .rl rfl⟩,
    ⟨rfl, accumulator .rr rfl⟩,
    fun op z => ⟨encode_rotR op z, (exec_rotR s op z).trans (congrArg _ (rotReg_eq_after s op z))⟩,
    fun op => ⟨encode_rotM op, (exec_rotM s op).trans (congrArg _ (rotHl_eq_after s op))⟩⟩

/-- Settles O20: `BIT` is `bitTest` of the byte it reads; `RES` and `SET` write the register (`resReg_eq_after`,
`setReg_eq_after`) or do the one Bus write of `resHl_eq_after` and `setHl_eq_after`. -/
theorem bitTestResetSet : Obligations.BitTestResetSet := fun s b =>
  ⟨fun z =>
    ⟨⟨encode_bitR b z, (exec_bitR s b z).trans (congrArg _ (bitTest_eq_after s b (s.regs.get z) 8))⟩,
      ⟨encode_resR b z, (exec_resR s b z).trans (congrArg _ (resReg_eq_after s b z))⟩,
      ⟨encode_setR b z, (exec_setR s b z).trans (congrArg _ (setReg_eq_after s b z))⟩⟩,
    ⟨encode_bitM b, (exec_bitM s b).trans (congrArg _ (bitTest_eq_after s b (readHl s) 12))⟩,
    ⟨encode_resM b, (exec_resM s b).trans (congrArg _ (resHl_eq_after s b))⟩,
    ⟨encode_setM b, (exec_setM s b).trans (congrArg _ (setHl_eq_after s b))⟩⟩

end Sys2Proof.Machine
end
section
/-! PROOFS. Control transfer (`45_control.md`): the bytes and the next states, taken and not taken. -/

namespace Sys2Proof.Machine

/-! ### The shared operations, each as one next state -/

section Operations

variable (s : State)

theorem jumpTo_eq_after (a : Word) (k : Nat) : jumpTo a k s = s.after { s.regs with pc := a } k := rfl

/-- `JR` keeps the sum of `AddRel` and discards its flags (rule R304). -/
theorem relTarget_eq (e : Byte) : relTarget e s = BitVec.ofInt 16 ((s.regs.pc.toNat : Int) + e.toInt) :=
  congrArg Res16.val (addRel_eq s.regs.pc e)

/-- The pushed word is `PC`, which is past the instruction (rule R306). -/
theorem callTo_eq_after (a : Word) (k : Nat) : callTo a k s =
    (memWrite (memWrite s (s.regs.sp - 1#16) (hiByte s.regs.pc)) (s.regs.sp - 2#16) (loByte s.regs.pc)).after
      { s.regs with sp := s.regs.sp - 2#16, pc := a } k := by
  rw [callTo, push16_eq]
  rfl

theorem returnTo_eq_after (k : Nat) : returnTo k s =
    s.after { s.regs with
      sp := s.regs.sp + 2#16, pc := memRead s (s.regs.sp + 1#16) ++ memRead s s.regs.sp } k := rfl

end Operations

/-- A form not taken spends its count and does nothing else (rule R312). -/
theorem ifCond_not_eq_after {s : State} {cc : Cond} (h : ¬ condHolds cc s.regs.f) (f : State → State) (k : Nat) :
    ifCond cc f k s = s.after s.regs k := ifCond_not h f k

/-! ### Jumps, calls and returns -/

/-- Settles O21: a jump taken is `jumpTo` of its target, which `relTarget_eq` gives for `JR`; one not taken is
`ifCond_not_eq_after`. -/
theorem jumpsAbsoluteAndRelative : Obligations.JumpsAbsoluteAndRelative := by
  intro s hi lo e k rel
  have jumpRel : jumpTo (relTarget e s) 12 s = s.after { s.regs with pc := rel } 12 := by
    rw [jumpTo_eq_after, relTarget_eq]
  refine ⟨⟨congrArg (0xC3#8 :: ·) (wordBytes_append hi lo), congrArg Host.Outcome.next (jumpTo_eq_after s _ 16)⟩,
    ⟨rfl, congrArg Host.Outcome.next (jumpTo_eq_after s _ 4)⟩, ⟨rfl, congrArg Host.Outcome.next jumpRel⟩,
    ?_, encode_jrCc k e, fun htaken => ⟨?_, ?_⟩, fun hnot => ⟨?_, ?_⟩⟩
  · rw [encode_jpCc, wordBytes_append]
  · rw [exec_jpCc, jpCond, ifCond_taken htaken, jumpTo_eq_after]
  · rw [exec_jrCc, jrCond, ifCond_taken htaken, jumpRel]
  · rw [exec_jpCc, jpCond, ifCond_not_eq_after hnot]
  · rw [exec_jrCc, jrCond, ifCond_not_eq_after hnot]

/-- Settles O22: each call is the two writes and the jump of `callTo_eq_after`; one not taken is
`ifCond_not_eq_after`. -/
theorem callsAndRestarts : Obligations.CallsAndRestarts := by
  intro s hi lo k y pushed entered
  have called (a : Word) (n : Nat) : callTo a n s = pushed.after (entered a) n := callTo_eq_after s a n
  refine ⟨⟨congrArg (0xCD#8 :: ·) (wordBytes_append hi lo), congrArg _ (called _ 24)⟩, ?_,
    fun htaken => ?_, fun hnot => ?_, encode_rst y, ?_⟩
  · rw [encode_callCc, wordBytes_append]
  · rw [exec_callCc, callCond, ifCond_taken htaken, called]
  · rw [exec_callCc, callCond, ifCond_not_eq_after hnot]
  · rw [exec_rst, restart, called, Nat.mul_comm]

/-- Settles O23: each return is `returnTo`, or `ifCond_not_eq_after` when not taken; `RETI` pops `PC` alike and sets
`IME` in the same step (rule R310). -/
theorem returnsFromCallsAndInterrupts : Obligations.ReturnsFromCallsAndInterrupts := by
  intro s k back
  have returned (n : Nat) : returnTo n s = s.after back n := returnTo_eq_after s n
  refine ⟨⟨rfl, congrArg Host.Outcome.next (returned 16)⟩, encode_retCc k, fun htaken => ?_, fun hnot => ?_,
    rfl, rfl⟩
  · rw [exec_retCc, retCond, ifCond_taken htaken, returned]
  · rw [exec_retCc, retCond, ifCond_not_eq_after hnot]

end Sys2Proof.Machine
end

section
/-! PROOFS. System instructions (`46_system.md`), the prefix row, and the `EI` delay over one `CPU.step`. -/

namespace Sys2Proof.Machine

/-! ### The `EI` delay (rules R334, R450) -/

theorem eiCountdown_eq (t : State) : eiCountdown t = { t with run := { t.run with
    ime := if t.run.eiDelay = .one then true else t.run.ime
    eiDelay := if t.run.eiDelay = .two then .one else .zero } } := by
  unfold eiCountdown
  cases h : t.run.eiDelay with
  | zero =>
    have hkept : t = { t with run := { t.run with eiDelay := .zero } } := by rw [← h]
    exact hkept
  | one => rfl
  | two => rfl

/-- A step that executes ends with the countdown of what the instruction leaves (rules R450, R451). -/
theorem cpuStep_eq_eiCountdown {s t : State} (hl : s.run.locked = false) (hh : s.run.halted = false)
    (hd : noDispatch s) (ht : exec (fetchInstr s) (advance s (fetchInstr s)) = .next t) :
    cpuStep s = .next (eiCountdown t) := by
  rw [cpuStep_executes hl hh hd, executeNext, ht]

theorem decodeBytes_ei (n1 n2 : Byte) : decodeBytes 0xFB#8 n1 n2 = .ei := rfl

/-- No source enabled and pending is no bit of `IE & IF` (rule R446). -/
theorem pending_eq_zero {s : State} (h : ∀ n, ¬ wanted s n) : pending s.irq = 0#5 := by
  have hbit (n : Source) : (pending s.irq).getLsbD n.bitIndex = false :=
    Bool.eq_false_iff.mpr fun hn => h n ((pending_bit_iff s n).mp hn)
  refine BitVec.eq_of_getLsbD_eq fun i hi => ?_
  match i, hi with
  | 0, _ => exact hbit .vblank
  | 1, _ => exact hbit .status
  | 2, _ => exact hbit .timer
  | 3, _ => exact hbit .serial
  | 4, _ => exact hbit .input

theorem selectSource_taken {s : State} {n : Source} (h : taken s n) : selectSource (pending s.irq) = some n := by
  obtain ⟨hn, hbefore⟩ := h
  have on {m : Source} : wanted s m → bit (pending s.irq) m.bitIndex = true := (pending_bit_iff s m).mpr
  have off {m : Source} : ¬ wanted s m → ¬ bit (pending s.irq) m.bitIndex = true := mt (pending_bit_iff s m).mp
  cases n with
  | vblank => exact if_pos (on hn)
  | status => exact (if_neg (off hbefore)).trans (if_pos (on hn))
  | timer =>
    obtain ⟨hvblank, hstatus⟩ := hbefore
    exact (if_neg (off hvblank)).trans ((if_neg (off hstatus)).trans (if_pos (on hn)))
  | serial => exact hbefore.elim
  | input =>
    obtain ⟨hvblank, hstatus, htimer⟩ := hbefore
    exact (if_neg (off hvblank)).trans
      ((if_neg (off hstatus)).trans ((if_neg (off htimer)).trans (if_pos (on hn))))

theorem cpuStep_locked {s : State} (hl : s.run.locked = true) : cpuStep s = .next (s.spend 4) := if_pos hl

theorem cpuStep_halted {s : State} (hl : s.run.locked = false) (hh : s.run.halted = true)
    (hn : ∀ n, ¬ wanted s n) : cpuStep s = .next (s.spend 4) := by
  simp [cpuStep, hl, checkAndDispatch, pending_eq_zero hn, hh]

/-- Trap entry (rule R446): the step is the interrupt and nothing else. -/
theorem cpuStep_taken {s : State} {n : Source} (hl : s.run.locked = false) (hime : s.run.ime = true)
    (hn : taken s n) : cpuStep s = .next (takeInterrupt n { s with run := { s.run with halted := false } }) := by
  have hsel := selectSource_taken hn
  have hp : pending s.irq ≠ 0#5 := fun h => by rw [h] at hsel; cases hsel
  simp [cpuStep, hl, checkAndDispatch, hp, hime, hsel]

/-- Settles O31: a step that executes ends with `eiCountdown`, a locked or halted one changes the count of cycles only,
and trap entry clears both. -/
theorem eiTakesEffectOneInstructionLater : Obligations.EiTakesEffectOneInstructionLater := by
  refine ⟨fun s hl hh hd hop => ?_, fun s t hl hh hd ht => ?_, fun s t hst => ⟨fun hidle => ?_, ?_⟩⟩
  · have hfetch : fetchInstr s = .ei := by rw [fetchInstr, hop, decodeBytes_ei]
    have hexec : exec (fetchInstr s) (advance s (fetchInstr s)) = .next (enableInterrupts (advance s .ei)) := by
      rw [hfetch]
      rfl
    exact cpuStep_eq_eiCountdown hl hh hd hexec
  · rw [cpuStep_eq_eiCountdown hl hh hd ht, eiCountdown_eq]
  · have hspend : cpuStep s = .next (s.spend 4) := by
      rcases hidle with hl | ⟨hh, hn⟩
      · exact cpuStep_locked hl
      · cases hl : s.run.locked
        · exact cpuStep_halted hl hh hn
        · exact cpuStep_locked hl
    cases hst.symm.trans hspend
    exact ⟨rfl, rfl⟩
  · rintro hl hime ⟨n, hn⟩
    cases hst.symm.trans (cpuStep_taken hl hime hn)
    exact ⟨rfl, rfl⟩

/-! ### The instructions (rules R330 to R336) -/

theorem encode_illegal (u : Unassigned) : encode (Family.illegal u) = [unassignedByte u] := by
  cases u <;> rfl

theorem stopCpu_eq (s : State) : stopCpu s =
    if s.cfg.gen = .two ∧ s.run.speedArmed = true then
      { s with run := { s.run with ds := !s.run.ds, speedArmed := false, cycles := 4 } }
    else { s with run := { s.run with halted := true, cycles := 4 } } := by
  simp only [stopCpu, speedSwitch, haltCpu, Bool.and_eq_true, decide_eq_true_eq]

/-- Settles O24: `NOP`, `HALT`, `DI` and `EI` are their operations as written; `STOP` has the two cases of `stopCpu_eq`,
an unassigned opcode those of the policy. -/
theorem systemInstructions : Obligations.SystemInstructions := by
  intro s n u
  refine ⟨⟨rfl, rfl⟩, ⟨rfl, rfl⟩, ⟨rfl, ?_⟩, ⟨rfl, rfl⟩, ⟨rfl, rfl⟩, encode_illegal u, ?_⟩
  · show Host.Outcome.next (stopCpu s) = _
    rw [stopCpu_eq, apply_ite Host.Outcome.next]
  · rw [exec_illegal, unassigned]
    cases s.cfg.illegalPolicy <;> rfl

/-! ### The prefix row (rule R335) -/

theorem withR8_some {sel : Nat} {z : Reg8} (h : r8Of sel = some z) (reg : Reg8 → Instr) (mem : Instr) :
    withR8 sel reg mem = reg z := by
  rw [withR8, h]

theorem withR8_none {sel : Nat} (h : r8Of sel = none) (reg : Reg8 → Instr) (mem : Instr) :
    withR8 sel reg mem = mem := by
  rw [withR8, h]

/-- The prefix runs the instruction the decoder names for its byte (rules R149, R335): the same group by `x`, the
register or the `(HL)` form by `z`. -/
theorem exec_decodeExt (ext : Byte) (s : State) : exec (decodeExt ext) s = .next (extPage ext s) := by
  unfold decodeExt extPage
  generalize xOf ext = x
  cases hz : r8Of (zOf ext) with
  | some z =>
    simp only [withR8_some hz]
    match x with
    | 0 => exact exec_rotR s _ z
    | 1 => exact exec_bitR s _ z
    | 2 => exact exec_resR s _ z
    | _ + 3 => exact exec_setR s _ z
  | none =>
    simp only [withR8_none hz]
    match x with
    | 0 => exact exec_rotM s _
    | 1 => exact exec_bitM s _
    | 2 => exact exec_resM s _
    | _ + 3 => exact exec_setM s _

/-- Settles O25: what the prefix row runs is the decoded instruction (`exec_decodeExt`), and no bytes decode to it
(`decodeBytes_ne_cb_page`). -/
theorem prefixRowRunsTheExtendedPage : Obligations.PrefixRowRunsTheExtendedPage :=
  ⟨fun s => ⟨prefixPage s, rfl, exec_decodeExt ..⟩, decodeBytes_ne_cb_page⟩

end Sys2Proof.Machine
end

section
/-! PROOFS. The mode machine: its line compare and its transitions. -/

namespace Sys2Proof.Machine

/-! ### The line compare (rule R362) -/

theorem raiseIf_eq (c : Bool) (n : Source) (s : State) : raiseIf c n s = { s with irq := { s.irq with
    iflag := if c = true then s.irq.iflag ||| 1#5 <<< n.bitIndex else s.irq.iflag } } := by
  cases c <;> rfl

/-- The line compare raises the status request for line `y`: equal now, not before, and enabled (rule R362). -/
abbrev LineFires (s : State) (y : Byte) : Prop :=
  y = s.lcd.lyc ∧ s.irq.coincidence = false ∧ s.irq.statEnable.getLsbD 3 = true

theorem coincidenceUpdate_eq (s : State) : coincidenceUpdate s = { s with irq := { s.irq with
    coincidence := decide (s.lcd.ly = s.lcd.lyc)
    iflag := if LineFires s s.lcd.ly then s.irq.iflag ||| 0b00010#5 else s.irq.iflag } } := by
  have hfires : (decide (s.lcd.ly = s.lcd.lyc) && !s.irq.coincidence && bit s.irq.statEnable 3) = true ↔
      LineFires s s.lcd.ly := by simp [bit, and_assoc]
  simp only [coincidenceUpdate, raiseIf_eq, hfires]
  rfl

/-- Settles O39: after an update the flag is that of the line, so a second one sees no change. -/
theorem lineCompareFiresOncePerEquality : Obligations.LineCompareFiresOncePerEquality := by
  intro s
  refine ⟨coincidenceUpdate_eq s, fun f => ?_, fun v => rfl⟩
  intro t u
  have hno : ¬ LineFires u u.lcd.ly := by
    rintro ⟨heq, hflag, -⟩
    have hset : decide (s.lcd.ly = s.lcd.lyc) = false := (coincidenceUpdate_coincidence s).symm.trans hflag
    have hly : s.lcd.ly = s.lcd.lyc := (coincidenceUpdate_lcd s) ▸ heq
    exact of_decide_eq_false hset hly
  rw [coincidenceUpdate_eq u, if_neg hno]
  simp [u, t]

/-! ### The transitions (rules R354, R355) -/

theorem enterMode_eq {m : PpuMode} (hm : m ≠ .vblank) (s : State) : enterMode m s = { s with
    lcd := { s.lcd with mode := m, counter := s.lcd.counter + budget m }
    irq := { s.irq with
      iflag := if modeEnable s.irq m = true then s.irq.iflag ||| 0b00010#5 else s.irq.iflag } } := by
  simp only [enterMode, raiseIf_eq, decide_eq_false hm, Bool.false_eq_true, if_false]
  rfl

/-- VBlank has a request of its own besides the status request (rule R355). -/
theorem enterMode_vblank (s : State) : enterMode .vblank s = { s with
    lcd := { s.lcd with mode := .vblank, counter := s.lcd.counter + 456 }
    irq := { s.irq with
      iflag := if s.irq.statEnable.getLsbD 1 = true then s.irq.iflag ||| 0b00011#5 else s.irq.iflag ||| 0b00001#5 } } := by
  have hboth : s.irq.iflag ||| 1#5 <<< 0 ||| 1#5 <<< 1 = s.irq.iflag ||| 0b00011#5 := BitVec.or_assoc ..
  simp only [enterMode, raiseIf_eq, decide_true, if_true, modeEnable, bit, Source.bitIndex, hboth]
  rfl

/-- Two causes of the status request are one request. -/
theorem statusRequest_or (p q : Prop) [Decidable p] [Decidable q] (f : BitVec 5) :
    (if q then (if p then f ||| 0b00010#5 else f) ||| 0b00010#5 else if p then f ||| 0b00010#5 else f) =
      if p ∨ q then f ||| 0b00010#5 else f := by
  have htwice : f ||| 0b00010#5 ||| 0b00010#5 = f ||| 0b00010#5 := BitVec.or_assoc ..
  by_cases hp : p <;> by_cases hq : q <;> simp only [hp, hq, htwice, if_true, if_false, or_true, or_false]

theorem statusRequest_or_vblank (p q : Prop) [Decidable p] [Decidable q] (f : BitVec 5) :
    (if q then (if p then f ||| 0b00010#5 else f) ||| 0b00011#5
      else (if p then f ||| 0b00010#5 else f) ||| 0b00001#5) =
      if p ∨ q then f ||| 0b00011#5 else f ||| 0b00001#5 := by
  have hthree : f ||| 0b00010#5 ||| 0b00011#5 = f ||| 0b00011#5 := BitVec.or_assoc ..
  have hone : f ||| 0b00010#5 ||| 0b00001#5 = f ||| 0b00011#5 := BitVec.or_assoc ..
  by_cases hp : p <;> by_cases hq : q <;> simp only [hp, hq, hthree, hone, if_true, if_false, or_true, or_false]

section Transitions

variable {s : State}

theorem ppuAdvance_search (hm : s.lcd.mode = .search) : ppuAdvance s =
    { s with lcd := { s.lcd with mode := .drawing, counter := s.lcd.counter + 172 } } := by
  simp only [ppuAdvance, hm]
  exact enterMode_eq (by decide) s

theorem renderLine_shape (s : State) :
    ∃ fb wlc, renderLine s = { s with lcd := { s.lcd with fb := fb, wlc := wlc } } := by
  unfold renderLine
  split
  · exact ⟨_, _, rfl⟩
  · exact ⟨s.lcd.fb, s.lcd.wlc, rfl⟩

theorem ppuAdvance_drawing (hm : s.lcd.mode = .drawing) : ppuAdvance s =
    hblankDma { renderLine s with
      lcd := { (renderLine s).lcd with mode := .hblank, counter := s.lcd.counter + 204 }
      irq := { s.irq with
        iflag := if s.irq.statEnable.getLsbD 0 = true then s.irq.iflag ||| 0b00010#5 else s.irq.iflag } } := by
  obtain ⟨fb, wlc, hr⟩ := renderLine_shape s
  simp only [ppuAdvance, hm, leaveDrawing, enterMode_eq (m := .hblank) (by decide), hr]
  rfl

theorem ppuAdvance_hblank_search (hm : s.lcd.mode = .hblank) (hly : (s.lcd.ly + 1#8).toNat < 144) : ppuAdvance s =
    { s with
      lcd := { s.lcd with ly := s.lcd.ly + 1#8, mode := .search, counter := s.lcd.counter + 80 }
      irq := { s.irq with
        coincidence := decide (s.lcd.ly + 1#8 = s.lcd.lyc)
        iflag := if LineFires s (s.lcd.ly + 1#8) ∨ s.irq.statEnable.getLsbD 2 = true
          then s.irq.iflag ||| 0b00010#5 else s.irq.iflag } } := by
  simp only [ppuAdvance, hm, leaveHblank, coincidenceUpdate_eq, setLy_lcd, if_neg (Nat.not_le.mpr hly),
    enterMode_eq (m := .search) (by decide), ← statusRequest_or]
  rfl

theorem ppuAdvance_hblank_vblank (hm : s.lcd.mode = .hblank) (hly : 144 ≤ (s.lcd.ly + 1#8).toNat) : ppuAdvance s =
    { s with
      lcd := { s.lcd with ly := s.lcd.ly + 1#8, mode := .vblank, counter := s.lcd.counter + 456 }
      irq := { s.irq with
        coincidence := decide (s.lcd.ly + 1#8 = s.lcd.lyc)
        iflag := if LineFires s (s.lcd.ly + 1#8) ∨ s.irq.statEnable.getLsbD 1 = true
          then s.irq.iflag ||| 0b00011#5 else s.irq.iflag ||| 0b00001#5 } } := by
  simp only [ppuAdvance, hm, leaveHblank, coincidenceUpdate_eq, setLy_lcd, if_pos hly, enterMode_vblank,
    ← statusRequest_or_vblank]
  rfl

theorem ppuAdvance_vblank_next (hm : s.lcd.mode = .vblank) (hly : s.lcd.ly.toNat + 1 ≤ 153) : ppuAdvance s =
    { s with
      lcd := { s.lcd with ly := s.lcd.ly + 1#8, counter := s.lcd.counter + 456 }
      irq := { s.irq with
        coincidence := decide (s.lcd.ly + 1#8 = s.lcd.lyc)
        iflag := if LineFires s (s.lcd.ly + 1#8) then s.irq.iflag ||| 0b00010#5 else s.irq.iflag } } := by
  have hleave : ppuAdvance s = leaveVblankLine s := by simp only [ppuAdvance, hm]
  rw [hleave, leaveVblankLine, if_neg (Nat.not_lt.mpr hly), coincidenceUpdate_eq]
  rfl

theorem ppuAdvance_vblank_search (hm : s.lcd.mode = .vblank) (hly : 153 < s.lcd.ly.toNat + 1) : ppuAdvance s =
    { s with
      lcd := { s.lcd with ly := 0#8, wlc := 0#8, mode := .search, counter := s.lcd.counter + 80 }
      host := { s.host with frames := s.lcd.fb :: s.host.frames }
      irq := { s.irq with
        coincidence := decide (0#8 = s.lcd.lyc)
        iflag := if LineFires s 0#8 ∨ s.irq.statEnable.getLsbD 2 = true
          then s.irq.iflag ||| 0b00010#5 else s.irq.iflag } } := by
  simp only [ppuAdvance, hm, leaveVblankLine, if_pos hly, coincidenceUpdate_eq,
    enterMode_eq (m := .search) (by decide), ← statusRequest_or]
  rfl

end Transitions

/-- Settles O45: one lemma for each transition. -/
theorem ppuTransitions : Obligations.PpuTransitions := fun _ =>
  ⟨ppuAdvance_search, ppuAdvance_drawing, ppuAdvance_hblank_search, ppuAdvance_hblank_vblank, ppuAdvance_vblank_next,
    ppuAdvance_vblank_search⟩

end Sys2Proof.Machine
end

section
/-! PROOFS. The loop of the mode machine and the place in the frame it leads to. -/

namespace Sys2Proof.Machine

/-! ### Where a transition leads (rules R351, R354) -/

/-- The mode after a transition out of mode `m` on line `y`. -/
def nextMode (m : PpuMode) (y : Byte) : PpuMode :=
  match m with
  | .search => .drawing
  | .drawing => .hblank
  | .hblank => if 144 ≤ (y + 1#8).toNat then .vblank else .search
  | .vblank => if 153 < y.toNat + 1 then .search else .vblank

/-- The line after a transition out of mode `m` on line `y`. -/
def nextLine (m : PpuMode) (y : Byte) : Byte :=
  match m with
  | .search => y
  | .drawing => y
  | .hblank => y + 1#8
  | .vblank => if 153 < y.toNat + 1 then 0#8 else y + 1#8

/-- A transition enters the next mode on the next line and adds that mode's budget to the counter. -/
theorem ppuAdvance_place (s : State) :
    (ppuAdvance s).lcd.mode = nextMode s.lcd.mode s.lcd.ly ∧
    (ppuAdvance s).lcd.ly = nextLine s.lcd.mode s.lcd.ly ∧
    (ppuAdvance s).lcd.counter = s.lcd.counter + budget (nextMode s.lcd.mode s.lcd.ly) := by
  cases hm : s.lcd.mode with
  | search =>
    rw [ppuAdvance_search hm]
    exact ⟨rfl, rfl, rfl⟩
  | drawing =>
    obtain ⟨v, d, hcopy⟩ := hblankDma_shape { renderLine s with
      lcd := { (renderLine s).lcd with mode := .hblank, counter := s.lcd.counter + 204 }
      irq := { s.irq with
        iflag := if s.irq.statEnable.getLsbD 0 = true then s.irq.iflag ||| 0b00010#5 else s.irq.iflag } }
    obtain ⟨fb, wlc, hrender⟩ := renderLine_shape s
    rw [ppuAdvance_drawing hm, hcopy, hrender]
    exact ⟨rfl, rfl, rfl⟩
  | hblank =>
    rcases Nat.lt_or_ge (s.lcd.ly + 1#8).toNat 144 with hly | hly
    · rw [ppuAdvance_hblank_search hm hly, nextMode, if_neg (Nat.not_le.mpr hly)]
      exact ⟨rfl, rfl, rfl⟩
    · rw [ppuAdvance_hblank_vblank hm hly, nextMode, if_pos hly]
      exact ⟨rfl, rfl, rfl⟩
  | vblank =>
    rcases Nat.lt_or_ge 153 (s.lcd.ly.toNat + 1) with hly | hly
    · rw [ppuAdvance_vblank_search hm hly, nextMode, nextLine, if_pos hly, if_pos hly]
      exact ⟨rfl, rfl, rfl⟩
    · rw [ppuAdvance_vblank_next hm hly, nextMode, nextLine, if_neg (Nat.not_lt.mpr hly), if_neg (Nat.not_lt.mpr hly)]
      exact ⟨hm, rfl, rfl⟩

/-! ### The loop (rules R352, R353) -/

/-- What holds before a loop and survives each round holds after it, and there the loop's condition fails. -/
theorem While.ends {α : Type} {c : α → Prop} {f : α → α} {P : α → Prop} {a b : α} (h : While c f a b) (ha : P a)
    (hf : ∀ x, c x → P x → P (f x)) : P b ∧ ¬ c b := by
  induction h with
  | done a hc => exact ⟨ha, hc⟩
  | again a b hc _ ih => exact ih (hf a hc ha)

theorem budget_ge (m : PpuMode) : 80 ≤ budget m := by
  cases m <;> decide

/-- Enough fuel is enough: each transition adds at least 80 to the counter. -/
theorem ppuLoop_while (fuel : Nat) (s : State) (h : 0 < s.lcd.counter + 80 * fuel) :
    While (fun u => u.lcd.counter ≤ 0) ppuAdvance s (ppuLoop fuel s) := by
  induction fuel generalizing s with
  | zero => exact .done s (show ¬ s.lcd.counter ≤ 0 by omega)
  | succ fuel ih =>
    unfold ppuLoop
    split
    case isTrue hc =>
      obtain ⟨-, -, hcounter⟩ := ppuAdvance_place s
      have hbudget := budget_ge (nextMode s.lcd.mode s.lcd.ly)
      exact .again _ _ hc (ih _ (by omega))
    case isFalse hc => exact .done s hc

section Display

variable {s : State} (n : Nat)

theorem ppuStep_on (hon : s.lcd.lcdc.getLsbD 7 = true) : While (fun u => u.lcd.counter ≤ 0) ppuAdvance
    { s with lcd := { s.lcd with counter := s.lcd.counter - n } } (ppuStep n s) := by
  have hstep : ppuStep n s = ppuLoop (ppuFuel (addCounter (-n) s)) (addCounter (-n) s) := if_pos hon
  rw [hstep]
  refine ppuLoop_while _ (addCounter (-n) s) ?_
  unfold ppuFuel
  omega

theorem ppuStep_off (hoff : s.lcd.lcdc.getLsbD 7 = false) : ppuStep n s = freeze s := by
  rw [ppuStep, bit, hoff, if_neg Bool.false_ne_true]

end Display

/-- Settles O44: the fuel is enough for the loop to end by itself, and the frozen machine only runs the line compare. -/
theorem ppuStepLoopsOrFreezes : Obligations.PpuStepLoopsOrFreezes := by
  refine ⟨fun s n => ppuStep_on n, fun s n hoff => ?_⟩
  rw [ppuStep_off n hoff, freeze, coincidenceUpdate_eq]
  simp only [LineFires, eq_comm (a := 0#8)]

/-! ### The mode machine stays legal -/

/-- A legal place but for the counter, which may have run out: what holds inside the loop. -/
def LineLegal (u : State) : Prop :=
  u.lcd.counter ≤ budget u.lcd.mode ∧
    (u.lcd.mode = .vblank → 144 ≤ u.lcd.ly.toNat ∧ u.lcd.ly.toNat ≤ 153) ∧
    (u.lcd.mode ≠ .vblank → u.lcd.ly.toNat < 144)

/-- The next line is one of the next mode's lines. -/
theorem nextLine_legal {m : PpuMode} {y : Byte} (hv : m = .vblank → 144 ≤ y.toNat ∧ y.toNat ≤ 153)
    (hd : m ≠ .vblank → y.toNat < 144) :
    (nextMode m y = .vblank → 144 ≤ (nextLine m y).toNat ∧ (nextLine m y).toNat ≤ 153) ∧
      (nextMode m y ≠ .vblank → (nextLine m y).toNat < 144) := by
  cases m with
  | search => exact ⟨nofun, fun _ => hd nofun⟩
  | drawing => exact ⟨nofun, fun _ => hd nofun⟩
  | hblank =>
    have hly : y.toNat < 144 := hd nofun
    simp only [nextMode, nextLine]
    split
    · exact ⟨fun _ => ⟨‹_›, by bv_omega⟩, fun h => absurd rfl h⟩
    · exact ⟨nofun, fun _ => by omega⟩
  | vblank =>
    obtain ⟨hlow, hhigh⟩ := hv rfl
    simp only [nextMode, nextLine]
    split
    · exact ⟨nofun, fun _ => by decide⟩
    · exact ⟨fun _ => by bv_omega, fun h => absurd rfl h⟩

theorem ppuAdvance_legal {u : State} (hc : u.lcd.counter ≤ 0) (h : LineLegal u) : LineLegal (ppuAdvance u) := by
  obtain ⟨-, hv, hd⟩ := h
  obtain ⟨hmode, hly, hcounter⟩ := ppuAdvance_place u
  unfold LineLegal
  rw [hmode, hly, hcounter]
  exact ⟨by omega, nextLine_legal hv hd⟩

theorem ppuStep_legal (n : Nat) {s : State} (h : LcdOk s) : LcdOk (ppuStep n s) := by
  obtain ⟨-, hle, hlines⟩ := h
  cases hon : s.lcd.lcdc.getLsbD 7
  · rw [ppuStep_off n hon]
    have hfrozen : (freeze s).lcd = { s.lcd with ly := 0#8, wlc := 0#8, mode := .search, counter := 80 } :=
      coincidenceUpdate_lcd _
    unfold LcdOk
    rw [hfrozen]
    exact ⟨(by decide : (0 : Int) < 80), (by decide : (80 : Int) ≤ (80 : Nat)), nofun,
      fun _ => (by decide : (0#8).toNat < 144)⟩
  · have hstart : LineLegal { s with lcd := { s.lcd with counter := s.lcd.counter - n } } :=
      ⟨show s.lcd.counter - n ≤ budget s.lcd.mode by omega, hlines⟩
    obtain ⟨⟨hle', hlines'⟩, hpos⟩ := (ppuStep_on n hon).ends hstart fun _ => ppuAdvance_legal
    exact ⟨Int.not_le.mp hpos, hle', hlines'⟩

/-- An instruction does not move the pixel processor. -/
theorem Reach.position {s t : State} (h : Reach s t) :
    t.lcd.ly = s.lcd.ly ∧ t.lcd.mode = s.lcd.mode ∧ t.lcd.counter = s.lcd.counter :=
  h.keeps (P := fun u => u.lcd.ly = s.lcd.ly ∧ u.lcd.mode = s.lcd.mode ∧ u.lcd.counter = s.lcd.counter)
    ⟨rfl, rfl, rfl⟩ (fun _ _ hu _ => hu) (fun _ _ hu _ => hu) fun u a v ⟨hly, hmode, hcounter⟩ => by
      obtain ⟨hly', hmode', hcounter'⟩ := memWrite_position u a v
      exact ⟨hly'.trans hly, hmode'.trans hmode, hcounter'.trans hcounter⟩

theorem cpuStep_position {s u : State} (h : cpuStep s = .next u) :
    u.lcd.ly = s.lcd.ly ∧ u.lcd.mode = s.lcd.mode ∧ u.lcd.counter = s.lcd.counter := by
  obtain ⟨f, t, ht, hruns⟩ := cpuStep_runs s
  cases ht.symm.trans h
  exact hruns.reach.position

/-- The Timer and the Host add requests, their own registers and the input sequence to what the pixel processor
leaves. -/
theorem devices_shape (u : State) : ∃ f d a c m r, devices u =
    let p := ppuStep (ppuCycles u.run) u
    { p with
      irq := { p.irq with iflag := f }
      tim := { p.tim with divCounter := d, timaAcc := a, tima := c }
      pad := { p.pad with inputMask := m }
      host := { p.host with masks := r } } := by
  obtain ⟨f, a, c, htimer⟩ := timerStep_shape u.run.cycles (ppuStep (ppuCycles u.run) u)
  obtain ⟨g, m, r, hhost⟩ := hostTurn_shape (timerStep u.run.cycles (ppuStep (ppuCycles u.run) u))
  exact ⟨g, _, a, c, m, r, by rw [devices, hhost, htimer]⟩

theorem devices_lcd (u : State) : (devices u).lcd = (ppuStep (ppuCycles u.run) u).lcd := by
  obtain ⟨f, d, a, c, m, r, h⟩ := devices_shape u
  rw [h]

/-- Settles O58: the CPU does not move the mode machine, and every round of the loop enters a legal place, so the loop
ends in one with the counter above 0. -/
theorem modeMachineStaysLegal : Obligations.ModeMachineStaysLegal := by
  intro s t hs h
  obtain ⟨f, u, hcpu, -⟩ := cpuStep_runs s
  cases (step_next hcpu).symm.trans h
  obtain ⟨hly, hmode, hcounter⟩ := cpuStep_position hcpu
  have hu : LcdOk u := by
    unfold LcdOk
    rw [hly, hmode, hcounter]
    exact hs
  unfold LcdOk
  rw [devices_lcd]
  exact ppuStep_legal _ hu

/-! ### The place in the frame (rule R365) -/

/-- Time `t` lies in a mode `m` that ends at time `e`: a line is 80 cycles of Search, 172 of Drawing and 204 of HBlank, or
456 of VBlank. -/
inductive Phase (t : Nat) : PpuMode → Nat → Prop
  | search (hline : t / 456 % 154 < 144) (h : t % 456 < 80) : Phase t .search (t / 456 * 456 + 80)
  | drawing (hline : t / 456 % 154 < 144) (h : 80 ≤ t % 456) (h' : t % 456 < 252) :
      Phase t .drawing (t / 456 * 456 + 252)
  | hblank (hline : t / 456 % 154 < 144) (h : 252 ≤ t % 456) : Phase t .hblank (t / 456 * 456 + 456)
  | vblank (hline : 144 ≤ t / 456 % 154) : Phase t .vblank (t / 456 * 456 + 456)

section Phases

variable {t : Nat} {m : PpuMode} {e : Nat} {y : Byte}

theorem Phase.lasting {m' : PpuMode} {e' : Nat} (k : Nat) (h : Phase e m' e') (hk : budget m' = k) (he : e' = e + k) :
    Phase e m' (e + budget m') := by
  rw [hk, ← he]
  exact h

/-- The next mode begins where one ends, on the next line, and lasts its budget. -/
theorem Phase.next (h : Phase t m e) (hy : y.toNat = t / 456 % 154) :
    Phase e (nextMode m y) (e + budget (nextMode m y)) ∧ (nextLine m y).toNat = e / 456 % 154 := by
  cases h with
  | search hline h =>
    exact ⟨.lasting 172 (.drawing (by omega) (by omega) (by omega)) rfl (by omega), hy.trans (by omega)⟩
  | drawing hline h h' =>
    exact ⟨.lasting 204 (.hblank (by omega) (by omega)) rfl (by omega), hy.trans (by omega)⟩
  | hblank hline h =>
    have hnext : (y + 1#8).toNat = (t / 456 * 456 + 456) / 456 % 154 := by bv_omega
    refine ⟨?_, hnext⟩
    simp only [nextMode]
    split
    · exact .lasting 456 (.vblank (by omega)) rfl (by omega)
    · exact .lasting 80 (.search (by omega) (by omega)) rfl (by omega)
  | vblank hline =>
    simp only [nextMode, nextLine]
    split
    · exact ⟨.lasting 80 (.search (by omega) (by omega)) rfl (by omega),
        show 0 = (t / 456 * 456 + 456) / 456 % 154 by omega⟩
    · exact ⟨.lasting 456 (.vblank (by omega)) rfl (by omega), by bv_omega⟩

/-- Until a mode ends, time lies in it. -/
theorem Phase.stays (h : Phase t m e) {u : Nat} (htu : t ≤ u) (hue : u < e) :
    Phase u m e ∧ u / 456 % 154 = t / 456 % 154 := by
  have hline : u / 456 = t / 456 := by cases h <;> omega
  refine ⟨?_, by rw [hline]⟩
  cases h with
  | search hvis h => exact hline ▸ .search (by omega) (by omega)
  | drawing hvis h h' => exact hline ▸ .drawing (by omega) (by omega) (by omega)
  | hblank hvis h => exact hline ▸ .hblank (by omega) (by omega)
  | vblank hvis => exact hline ▸ .vblank (by omega)

end Phases

theorem atPosition_iff {t : Nat} {s : State} : AtPosition t s ↔
    s.lcd.ly.toNat = t / 456 % 154 ∧ ∃ e, Phase t s.lcd.mode e ∧ s.lcd.counter = (e : Int) - t := by
  constructor
  · rintro ⟨hly, hmode, hcounter⟩
    rw [hmode, hcounter]
    refine ⟨hly, ?_⟩
    split_ifs with hv hs hd
    · exact ⟨_, .vblank hv, by omega⟩
    · exact ⟨_, .search (by omega) hs, by omega⟩
    · exact ⟨_, .drawing (by omega) (by omega) hd, by omega⟩
    · exact ⟨_, .hblank (by omega) (by omega), by omega⟩
  · rintro ⟨hly, e, hphase, hcounter⟩
    unfold AtPosition
    rw [hcounter]
    refine ⟨hly, ?_⟩
    generalize s.lcd.mode = m at hphase
    cases hphase with
    | search hline h =>
      simp only [if_neg (Nat.not_le.mpr hline), if_pos h]
      exact ⟨trivial, by omega⟩
    | drawing hline h h' =>
      simp only [if_neg (Nat.not_le.mpr hline), if_neg (Nat.not_lt.mpr h), if_pos h']
      exact ⟨trivial, by omega⟩
    | hblank hline h =>
      simp only [if_neg (Nat.not_le.mpr hline), if_neg (show ¬ t % 456 < 80 by omega), if_neg (Nat.not_lt.mpr h)]
      exact ⟨trivial, by omega⟩
    | vblank hline =>
      simp only [if_pos hline]
      exact ⟨trivial, by omega⟩

/-- Inside the loop: at time `t` the machine is still where it was at an earlier time, in a mode that may have ended. -/
def Behind (t : Nat) (s : State) : Prop :=
  ∃ t₀ e, t₀ ≤ t ∧ Phase t₀ s.lcd.mode e ∧ s.lcd.ly.toNat = t₀ / 456 % 154 ∧ s.lcd.counter = (e : Int) - t

theorem ppuAdvance_behind {t : Nat} {s : State} (hc : s.lcd.counter ≤ 0) (h : Behind t s) : Behind t (ppuAdvance s) := by
  obtain ⟨t₀, e, -, hphase, hly, hcounter⟩ := h
  obtain ⟨hmode', hly', hcounter'⟩ := ppuAdvance_place s
  obtain ⟨hnext, hline⟩ := hphase.next hly
  unfold Behind
  rw [hmode', hly', hcounter']
  exact ⟨e, _, by omega, hnext, hline, by omega⟩

theorem Behind.caughtUp {t : Nat} {s : State} (h : Behind t s) (hc : ¬ s.lcd.counter ≤ 0) : AtPosition t s := by
  obtain ⟨t₀, e, hle, hphase, hly, hcounter⟩ := h
  obtain ⟨hnow, hline⟩ := hphase.stays hle (by omega)
  exact atPosition_iff.mpr ⟨hly.trans hline.symm, e, hnow, hcounter⟩

theorem ppuStep_position (n : Nat) {s : State} {t : Nat} (hon : s.lcd.lcdc.getLsbD 7 = true) (h : AtPosition t s) :
    AtPosition (t + n) (ppuStep n s) := by
  obtain ⟨hly, e, hphase, hcounter⟩ := atPosition_iff.mp h
  have hstart : Behind (t + n) { s with lcd := { s.lcd with counter := s.lcd.counter - n } } :=
    ⟨t, e, by omega, hphase, hly, show s.lcd.counter - n = (e : Int) - (t + n : Nat) by omega⟩
  obtain ⟨hbehind, hc⟩ := (ppuStep_on n hon).ends hstart fun _ => ppuAdvance_behind
  exact hbehind.caughtUp hc

theorem ppuStep_lcdc (n : Nat) (s : State) : (ppuStep n s).lcd.lcdc = s.lcd.lcdc := by
  rw [(shown_ppuStep n s).lcd]

/-- Only the place of the pixel processor matters. -/
theorem AtPosition.congr {t : Nat} {s u : State} (h : AtPosition t s)
    (hu : u.lcd.ly = s.lcd.ly ∧ u.lcd.mode = s.lcd.mode ∧ u.lcd.counter = s.lcd.counter) : AtPosition t u := by
  obtain ⟨hly, hmode, hcounter⟩ := hu
  unfold AtPosition
  rw [hly, hmode, hcounter]
  exact h

theorem foldl_ppuStep_position (counts : List Nat) {s : State} {t : Nat} (hon : s.lcd.lcdc.getLsbD 7 = true)
    (h : AtPosition t s) : AtPosition (t + counts.sum) (counts.foldl (fun x n => ppuStep n x) s) := by
  induction counts generalizing s t with
  | nil => exact h
  | cons n counts ih =>
    rw [List.sum_cons, ← Nat.add_assoc]
    exact ih ((congrArg (·.getLsbD 7) (ppuStep_lcdc n s)).trans hon) (ppuStep_position n hon h)

/-- Settles O46: inside the loop the machine is behind the time (`Behind`), each transition takes it to the time its mode
ends, and the loop ends when it has caught up. -/
theorem framePositionFollowsTheCycles : Obligations.FramePositionFollowsTheCycles := by
  refine ⟨fun s t n hon h => ⟨ppuStep_position n hon h, ppuStep_lcdc n s⟩, fun s u v t h hcpu hon hstep => ?_,
    fun s counts hon hly hmode hcounter => ?_⟩
  · cases (step_next hcpu).symm.trans hstep
    have hu : AtPosition t u := h.congr (cpuStep_position hcpu)
    exact (ppuStep_position (ppuCycles u.run) hon hu).congr (by simp only [devices_lcd, and_self])
  · have hstart : AtPosition 0 s := by
      unfold AtPosition
      rw [hly, hmode, hcounter]
      decide
    obtain ⟨hline, hmode', -⟩ := foldl_ppuStep_position counts hon hstart
    rw [Nat.zero_add] at hline hmode'
    exact ⟨hline, hmode'⟩

end Sys2Proof.Machine
end

section
/-! PROOFS. The Timer and the Host, and what the agents after the CPU leave alone. -/

namespace Sys2Proof.Machine

/-! ### The Host (rule R470) -/

/-- Settles O53: the next entry of the input sequence decides. -/
theorem hostMaskRaisesTheInputRequest : Obligations.HostMaskRaisesTheInputRequest := by
  intro s new rest
  refine ⟨fun h => ?_, fun h => ?_, fun h hsame => ?_, fun h hnew => ?_⟩
  · simp only [hostTurn, h]
  · simp only [hostTurn, h]
  · simp only [hostTurn, h, hostInput, if_pos hsame]
  · simp only [hostTurn, h, hostInput, if_neg hnew]
    rfl

/-! ### The Timer (rule R466) -/

theorem timerPeriod_eq : ∀ tac : BitVec 3, timerPeriod tac =
    if tac.getLsbD 1 then (if tac.getLsbD 0 then 256 else 64) else (if tac.getLsbD 0 then 16 else 1024) := by
  decide

/-- One round of the loop of rule R466 with period `p`. -/
def timerRound (p : Nat) (u : State) : State :=
  if u.tim.tima = 0xFF#8 then
    { u with
      tim := { u.tim with timaAcc := u.tim.timaAcc - p, tima := u.tim.tma }
      irq := { u.irq with iflag := u.irq.iflag ||| 0b00100#5 } }
  else { u with tim := { u.tim with timaAcc := u.tim.timaAcc - p, tima := u.tim.tima + 1#8 } }

/-- The accumulator replaced. -/
def withAcc (s : State) (a : Nat) : State := { s with tim := { s.tim with timaAcc := a } }

/-- A count of `TIMA` does not look at the accumulator. -/
theorem timerTick_withAcc (s : State) (a : Nat) : timerTick (withAcc s a) = withAcc (timerTick s) a := by
  unfold timerTick
  by_cases h : s.tim.tima = 0xFF#8
  · rw [if_pos h, if_pos (show (withAcc s a).tim.tima = 0xFF#8 from h)]
    rfl
  · rw [if_neg h, if_neg (show ¬ (withAcc s a).tim.tima = 0xFF#8 from h)]
    rfl

theorem timerRound_withAcc (p : Nat) (s : State) (a : Nat) :
    timerRound p (withAcc s a) = withAcc (timerTick s) (a - p) := by
  unfold timerRound timerTick
  by_cases h : s.tim.tima = 0xFF#8
  · rw [if_pos h, if_pos (show (withAcc s a).tim.tima = 0xFF#8 from h)]
    rfl
  · rw [if_neg h, if_neg (show ¬ (withAcc s a).tim.tima = 0xFF#8 from h)]
    rfl

/-- The loop takes one period a round, so it runs `a / p` times and leaves `a % p` (log entry 14). -/
theorem timerTicks_while {p : Nat} (hp : 0 < p) (s : State) (a : Nat) :
    While (fun u => p ≤ u.tim.timaAcc) (timerRound p) (withAcc s a) (timerTicks (a / p) (withAcc s (a % p))) := by
  induction a using Nat.strong_induction_on generalizing s with
  | _ a ih =>
    rcases Nat.lt_or_ge a p with hlt | hge
    · rw [Nat.div_eq_of_lt hlt, Nat.mod_eq_of_lt hlt]
      exact .done _ (Nat.not_le.mpr hlt)
    · have hrest := ih (a - p) (by omega) (timerTick s)
      rw [Nat.div_eq_sub_div hp hge, Nat.mod_eq_sub_mod hge, timerTicks, timerTick_withAcc]
      exact .again _ _ hge ((timerRound_withAcc p s a).symm ▸ hrest)

/-- Settles O52: the loop is `timerTicks_while`; the registers are arms of the page. -/
theorem timerStepIsItsLoop : Obligations.TimerStepIsItsLoop := by
  refine ⟨fun s n => ?_, fun s v => ⟨rfl, rfl, rfl, ?_, rfl, rfl, rfl, rfl⟩, fun c => rfl⟩
  · intro period divided
    have hperiod : timerPeriod s.tim.tac = period := timerPeriod_eq s.tim.tac
    refine ⟨fun hoff => ?_, fun hon => ?_⟩
    · rw [timerStep, bit, hoff, if_neg Bool.false_ne_true]
    · have hstep : timerStep n s =
          timerTicks ((s.tim.timaAcc + n) / period) (withAcc divided ((s.tim.timaAcc + n) % period)) := by
        rw [timerStep, bit, if_pos hon, hperiod]
        rfl
      rw [hstep]
      exact timerTicks_while (hperiod ▸ (timerPeriod_le s.tim.tac).1) divided _
  · exact (by decide : ∀ tac : BitVec 3, 0x1F#5 ++ tac = 0xF8#8 ||| tac.setWidth 8) s.tim.tac

/-! ### Requests (rules R33, R444) -/

/-- From `s` to `t` request bits are only set, never the serial one. -/
def Raises (s t : State) : Prop := ∃ f : BitVec 5, f.getLsbD 3 = false ∧ t.irq.iflag = s.irq.iflag ||| f

theorem Raises.of_eq {s t : State} (h : t.irq.iflag = s.irq.iflag) : Raises s t := ⟨0#5, rfl, h.trans BitVec.or_zero.symm⟩

theorem Raises.trans {s t u : State} (h : Raises s t) (k : Raises t u) : Raises s u := by
  obtain ⟨f, hf, hst⟩ := h
  obtain ⟨g, hg, htu⟩ := k
  exact ⟨f ||| g, by rw [BitVec.getLsbD_or, hf, hg]; rfl, by rw [htu, hst, BitVec.or_assoc]⟩

/-- A request of a source other than serial, whatever else changes. -/
theorem Raises.of_if {s t : State} {p : Prop} [Decidable p] {f : BitVec 5} (hf : f.getLsbD 3 = false)
    (h : t.irq.iflag = if p then s.irq.iflag ||| f else s.irq.iflag) : Raises s t := by
  split at h
  · exact ⟨f, hf, h⟩
  · exact .of_eq h

theorem raises_coincidenceUpdate (s : State) : Raises s (coincidenceUpdate s) :=
  .of_if (f := 0b00010#5) rfl (by rw [coincidenceUpdate_eq])

theorem raises_enterMode (m : PpuMode) (s : State) : Raises s (enterMode m s) := by
  by_cases hm : m = .vblank
  · subst hm
    have hflags := congrArg (·.irq.iflag) (enterMode_vblank s)
    split at hflags
    · exact ⟨0b00011#5, rfl, hflags⟩
    · exact ⟨0b00001#5, rfl, hflags⟩
  · exact .of_if (f := 0b00010#5) rfl (by rw [enterMode_eq hm])

theorem raises_ppuAdvance (s : State) : Raises s (ppuAdvance s) := by
  unfold ppuAdvance
  split
  · exact raises_enterMode _ s
  · obtain ⟨fb, wlc, hrender⟩ := renderLine_shape s
    obtain ⟨v, d, hcopy⟩ := hblankDma_shape (enterMode .hblank (renderLine s))
    have hdrawn : Raises s (renderLine s) := .of_eq (by rw [hrender])
    rw [leaveDrawing, hcopy]
    exact hdrawn.trans (raises_enterMode .hblank _)
  · have hline : Raises s (coincidenceUpdate (setLy (s.lcd.ly + 1#8) s)) := raises_coincidenceUpdate (setLy _ s)
    unfold leaveHblank
    dsimp only
    split
    · exact hline.trans (raises_enterMode .vblank _)
    · exact hline.trans (raises_enterMode .search _)
  · unfold leaveVblankLine
    dsimp only
    split
    · refine Raises.trans (.of_eq ?_) ((raises_coincidenceUpdate _).trans (raises_enterMode .search _))
      rfl
    · exact raises_coincidenceUpdate (setLy _ s)

theorem raises_ppuStep (n : Nat) (s : State) : Raises s (ppuStep n s) := by
  cases hon : s.lcd.lcdc.getLsbD 7
  · rw [ppuStep_off n hon]
    exact raises_coincidenceUpdate _
  · exact ((ppuStep_on n hon).ends (P := Raises s) (.of_eq rfl) fun u _ hu => hu.trans (raises_ppuAdvance u)).1

theorem raises_timerTicks (k : Nat) (s : State) : Raises s (timerTicks k s) := by
  induction k generalizing s with
  | zero => exact .of_eq rfl
  | succ k ih =>
    refine Raises.trans ?_ (ih (timerTick s))
    unfold timerTick
    split
    · exact ⟨0b00100#5, rfl, rfl⟩
    · exact .of_eq rfl

theorem raises_timerStep (n : Nat) (s : State) : Raises s (timerStep n s) := by
  unfold timerStep
  split
  · exact raises_timerTicks _ _
  · exact .of_eq rfl

theorem raises_hostTurn (s : State) : Raises s (hostTurn s) := by
  unfold hostTurn hostInput
  split
  · exact .of_eq rfl
  · exact .of_eq rfl
  · split
    · exact .of_eq rfl
    · exact ⟨0b10000#5, rfl, rfl⟩

theorem raises_devices (s : State) : Raises s (devices s) :=
  ((raises_ppuStep _ s).trans (raises_timerStep _ _)).trans (raises_hostTurn _)

theorem Raises.keeps {s t : State} (h : Raises s t) :
    s.irq.iflag &&& t.irq.iflag = s.irq.iflag ∧ t.irq.iflag.getLsbD 3 = s.irq.iflag.getLsbD 3 := by
  obtain ⟨f, hf, hst⟩ := h
  rw [hst]
  refine ⟨?_, by rw [BitVec.getLsbD_or, hf, Bool.or_false]⟩
  ext i hi
  simp +contextual

/-- Settles O32: `Shown` says what the pixel processor keeps, `devices_shape` what the Timer and the Host do, and `Raises`
that requests are only added. -/
theorem devicesLeaveTheCpuAlone : Obligations.DevicesLeaveTheCpuAlone := by
  intro s
  have hppu := shown_ppuStep (ppuCycles s.run) s
  have hkeeps := (raises_devices s).keeps
  obtain ⟨f, d, a, c, m, r, h⟩ := devices_shape s
  rw [h] at hkeeps ⊢
  obtain ⟨hkept, hserial⟩ := hkeeps
  exact ⟨hppu.cfg, hppu.regs, hppu.run, hppu.cart, congrArg (·.ie) hppu.irq, congrArg (·.statEnable) hppu.irq, hkept,
    hserial, hppu.ram, hppu.port, hppu.lcd, congrArg (·.tma) hppu.tim, congrArg (·.tac) hppu.tim,
    congrArg (·.select) hppu.pad⟩

end Sys2Proof.Machine
end

section
/-! PROOFS. Interrupt entry, and the steps of a locked or halted CPU. -/

namespace Sys2Proof.Machine

/-! ### No access to memory looks at `halted` (rules R44, R73) -/

/-- The halt ended (rule R446). -/
def awake (s : State) : State := { s with run := { s.run with halted := false } }

@[simp] theorem awake_cfg (s : State) : (awake s).cfg = s.cfg := rfl
@[simp] theorem awake_cart (s : State) : (awake s).cart = s.cart := rfl
@[simp] theorem awake_irq (s : State) : (awake s).irq = s.irq := rfl
@[simp] theorem awake_regs (s : State) : (awake s).regs = s.regs := rfl

theorem memRead_awake (s : State) (a : Word) : memRead (awake s) a = memRead s a := memRead_withRun s _ a (.inl rfl)

theorem copyByte_awake (s : State) (i : Nat) : copyByte (awake s) i = awake (copyByte s i) := by
  have hread := memRead_awake s (s.dma.src + BitVec.ofNat 16 i)
  unfold copyByte
  rw [← hread]
  rfl

theorem copyBlock_awake (s : State) : copyBlock (awake s) = awake (copyBlock s) := by
  obtain ⟨u, hu⟩ : ∃ u, (List.range 16).foldl copyByte s = u := ⟨_, rfl⟩
  rw [copyBlock, copyBlock, foldl_commutes awake copyByte copyByte_awake, hu]
  rfl

theorem copyBlocks_awake (k : Nat) (s : State) : copyBlocks k (awake s) = awake (copyBlocks k s) := by
  induction k generalizing s with
  | zero => rfl
  | succ k ih => rw [copyBlocks, copyBlock_awake, ih, copyBlocks]

theorem oamCopyByte_awake (w : Byte) (s : State) (i : Nat) :
    oamCopyByte w (awake s) i = awake (oamCopyByte w s i) := by
  unfold oamCopyByte
  rw [memRead_awake]
  rfl

theorem oamDmaWrite_awake (s : State) (w : Byte) : oamDmaWrite (awake s) w = awake (oamDmaWrite s w) := by
  unfold oamDmaWrite
  generalize List.range 160 = l
  exact foldl_commutes awake (oamCopyByte w) (oamCopyByte_awake w) l { s with dma := { s.dma with port := w } }

theorem hdma5Write_awake (s : State) (w : Byte) : hdma5Write (awake s) w = awake (hdma5Write s w) := by
  cases h7 : bit w 7
  case true => rw [hdma5Write_arm h7, hdma5Write_arm h7]; rfl
  case false =>
    cases ha : s.dma.active
    case true => rw [hdma5Write_cancel ha h7, hdma5Write_cancel (s := awake s) ha h7]; rfl
    case false =>
      rw [hdma5Write_now ha h7, hdma5Write_now (s := awake s) ha h7]
      exact copyBlocks_awake (w.toNat % 128 + 1) { s with dma := { s.dma with rem := BitVec.ofNat 8 (w.toNat % 128 + 1) } }

/-- Every branch of every mapper tests and writes the cartridge only. -/
theorem mapperWrite_awake (s : State) (a : Word) (w : Byte) : mapperWrite (awake s) a w = awake (mapperWrite s a w) := by
  unfold mapperWrite mapper1Write mapper2Write mapper3Write mapper4Write
  rw [awake_cfg, awake_cart]
  cases s.cfg.mapper <;> dsimp only <;> split_ifs <;> rfl

theorem coincidenceUpdate_awake (s : State) : coincidenceUpdate (awake s) = awake (coincidenceUpdate s) := by
  rw [coincidenceUpdate_eq, coincidenceUpdate_eq]
  rfl

theorem pageWrite_awake (s : State) (i v : Byte) : pageWrite (awake s) i v = awake (pageWrite s i v) := by
  unfold pageWrite
  rw [show (awake s).cfg = s.cfg from rfl]
  cases pageReg s.cfg.gen i
  case lyc => exact coincidenceUpdate_awake { s with lcd := { s.lcd with lyc := v } }
  case dma => exact oamDmaWrite_awake s v
  case hdma5 => exact hdma5Write_awake s v
  all_goals rfl

theorem memWrite_awake (s : State) (a : Word) (v : Byte) : memWrite (awake s) a v = awake (memWrite s a v) := by
  unfold memWrite
  rw [show place (awake s) a = place s a from rfl]
  cases place s a
  case rom => exact mapperWrite_awake s a v
  case page i => exact pageWrite_awake s i v
  all_goals rfl

/-! ### Interrupt entry (rules R447, R453) -/

/-- Settles O29: trap entry is `takeInterrupt` after the halt has ended, and the two writes of its push do not look at
the registers or at `halted`. -/
theorem interruptEntrySavesThePc : Obligations.InterruptEntrySavesThePc := by
  intro s n hl hime hn cleared pushed
  have hpush : push16 (clearIrq n (awake s)) s.regs.pc =
      awake (pushed.withRegs { s.regs with sp := s.regs.sp - 2#16 }) := by
    have hcleared : clearIrq n (awake s) = awake cleared := rfl
    rw [hcleared, push16_eq, memWrite_awake, memWrite_awake]
    rfl
  have hentry : takeInterrupt n (awake s) = { pushed with
      regs := { s.regs with sp := s.regs.sp - 2#16, pc := BitVec.ofNat 16 (0x0040 + 8 * n.bitIndex) }
      run := { pushed.run with ime := false, eiDelay := .zero, halted := false, cycles := 20 } } := by
    rw [takeInterrupt, awake_regs, hpush]
    clear_value pushed
    rfl
  rw [← hentry]
  exact cpuStep_taken hl hime hn

/-! ### Locked, halted and woken steps (rules R449, R452) -/

theorem fetchInstr_awake (s : State) : fetchInstr (awake s) = fetchInstr s := by
  simp only [fetchInstr, memRead_awake, awake_regs]

/-- A halted CPU with something enabled and pending and no interrupt to take runs the next instruction awake. -/
theorem cpuStep_woken {s : State} (hl : s.run.locked = false) (hw : ∃ n, wanted s n) (hd : noDispatch s) :
    cpuStep s = executeNext (awake s) := by
  have hcheck : checkAndDispatch s = (awake s, false) := by
    rcases checkAndDispatch_cases s with ⟨hnone, -⟩ | ⟨-, -, h⟩ | ⟨n, -, hime, hsel, -⟩
    · obtain ⟨n, hn⟩ := hw
      have hbit := (pending_bit_iff s n).mpr hn
      rw [hnone, bit, BitVec.getLsbD_zero] at hbit
      exact absurd hbit Bool.false_ne_true
    · exact h
    · rcases hd with hoff | hnone
      · exact absurd (hoff.symm.trans hime) Bool.false_ne_true
      · exact absurd ((selectSource_none hnone).symm.trans hsel) nofun
  simp only [cpuStep, hl, hcheck, Bool.false_eq_true, if_false]
  rfl

/-- Settles O30: one lemma for each kind of step. -/
theorem lockedHaltedAndWokenSteps : Obligations.LockedHaltedAndWokenSteps := by
  refine fun s => ⟨cpuStep_locked, cpuStep_halted, fun hl _ hw hd => ?_, fun hl _ hime ⟨n, hn⟩ => ?_⟩
  · obtain ⟨t, ht, -⟩ := exec_runs (fetchInstr s) (advance (awake s) (fetchInstr s))
    refine ⟨t, ht, ?_⟩
    rw [cpuStep_woken hl hw hd, executeNext, fetchInstr_awake, ht]
  · exact ⟨_, cpuStep_taken hl hime hn, rfl, rfl⟩

end Sys2Proof.Machine
end

section
/-! PROOFS. The renderer: tiles and sprites, background and window, composition, the line, and the frame. -/

namespace Sys2Proof.Machine

/-! ### Tiles (rules R392 to R395, R413) -/

/-- The bit of column `col` in the video-RAM byte at `a` of bank `b`. -/
theorem bitNat_vramAt (s : State) (b a col : Nat) : bitNat (bit (vramAt s b a) (7 - col)) =
    if (s.ram.vram.read (0x2000 * b + (a - 0x8000))).getLsbD (7 - col) = true then 1 else 0 := by
  rw [vramAt, Nat.mul_comm b]
  rfl

/-- Settles O49: a pixel is two `bitNat_vramAt`, and the lookups are those of the definitions, generation by
generation. -/
theorem tilePixelsAreTwoBitPlanes : Obligations.TilePixelsAreTwoBitPlanes := by
  intro s plane pixel
  have hpixel (b base r c : Nat) : tilePixel s b base r c = pixel b base r c := by
    simp only [tilePixel, bitNat_vramAt, pixel, plane]
  refine ⟨fun mx my base _ _ _ => ?_, fun n x => ?_⟩
  · have hmap : vramAt s 0 (base + 32 * (my / 8) + mx / 8) =
        s.ram.vram.read (base + 32 * (my / 8) + mx / 8 - 0x8000) := by rw [vramAt, Nat.zero_mul, Nat.zero_add]
    have hattr : vramAt s 1 (base + 32 * (my / 8) + mx / 8) =
        s.ram.vram.read (0x2000 + (base + 32 * (my / 8) + mx / 8 - 0x8000)) := by rw [vramAt, Nat.one_mul]
    cases hg : s.cfg.gen <;>
      simp only [bgPixel, hg, hpixel, hmap, hattr, tileBase, bitNat, bit, reduceCtorEq, if_true, if_false]
  · intro oy ox number attr h line row col tile _ _ _ _ _
    have htile : tile = if h = 16 then number / 2 * 2 + row / 8 else number := by
      simp only [tile, Nat.mul_comm 2]
    have hbank : (match s.cfg.gen with | .one => 0 | .two => bitNat (bit attr 3)) =
        if s.cfg.gen = .two ∧ attr.getLsbD 3 = true then 1 else 0 := by
      cases s.cfg.gen <;> simp [bitNat, bit]
    rw [← hpixel, ← hbank, htile]
    rfl

/-! ### Background and window (rules R396 to R401) -/

theorem bgOn_iff (s : State) : bgOn s = true ↔ s.cfg.gen = .two ∨ s.lcd.lcdc.getLsbD 0 = true := by
  cases hg : s.cfg.gen <;> simp [bgOn, hg, bit]

theorem winOn_iff (s : State) : winOn s = true ↔ (s.cfg.gen = .two ∨ s.lcd.lcdc.getLsbD 0 = true) ∧
    s.lcd.lcdc.getLsbD 5 = true ∧ s.lcd.wy.toNat ≤ s.lcd.ly.toNat ∧ s.lcd.wx.toNat ≤ 166 := by
  simp only [winOn, Bool.and_eq_true, decide_eq_true_eq, bgOn_iff, bit, and_assoc]

section Columns

variable {s : State} {x : Nat}

theorem backPixel_off (h : ¬ bgOn s = true) : backPixel s x = { idx := 0, attr := 0#8 } := by
  simp [backPixel, h]

theorem backPixel_window (h : winOn s = true) (hx : s.lcd.wx.toNat ≤ x + 7) : backPixel s x =
    bgPixel s (x + 7 - s.lcd.wx.toNat) s.lcd.wlc.toNat (mapBase (bit s.lcd.lcdc 6)) := by
  have hon : bgOn s = true := (bgOn_iff s).mpr ((winOn_iff s).mp h).1
  simp [backPixel, hon, h, hx]

theorem backPixel_background (hon : bgOn s = true) (h : ¬ winOn s = true ∨ x + 7 < s.lcd.wx.toNat) : backPixel s x =
    bgPixel s ((x + s.lcd.scx.toNat) % 256) ((s.lcd.ly.toNat + s.lcd.scy.toNat) % 256)
      (mapBase (bit s.lcd.lcdc 3)) := by
  have hnot : ¬ (winOn s && decide (s.lcd.wx.toNat ≤ x + 7)) = true := by
    rw [Bool.and_eq_true, decide_eq_true_eq]
    rintro ⟨hwin, hx⟩
    exact h.elim (· hwin) fun hlt => absurd hx (Nat.not_le.mpr hlt)
  rw [backPixel, if_neg (by simp [hon]), if_neg hnot]

end Columns

/-! ### Colours and composition (rules R420 to R427) -/

theorem shade_eq (reg : Byte) (c : Nat) : shade reg c = ((reg >>> (2 * c)) &&& 3#8).setWidth 15 := by
  apply BitVec.eq_of_toNat_eq
  have hlow : reg.toNat / 4 ^ c &&& 3 = reg.toNat / 4 ^ c % 4 := Nat.and_two_pow_sub_one_eq_mod _ 2
  simp only [shade, BitVec.toNat_ofNat, BitVec.toNat_setWidth, BitVec.toNat_and, BitVec.toNat_ushiftRight,
    Nat.shiftRight_eq_div_pow, Nat.reducePow, Nat.reduceMod, pow_mul, hlow]

/-- Settles O50: the three cases of a column, and composition generation by generation. -/
theorem backgroundPixelAndComposition : Obligations.BackgroundPixelAndComposition := by
  refine ⟨fun s x _ => ?_, fun s back p _ _ => ⟨fun hg => ?_, fun hg => ?_⟩⟩
  · intro bOn wOn wx
    have hb : bgOn s = true ↔ bOn := bgOn_iff s
    have hw : winOn s = true ↔ wOn := winOn_iff s
    rw [← hb, ← hw]
    exact ⟨backPixel_off, backPixel_window, backPixel_background⟩
  · simp only [compose, backWins, backColour, spriteColour, hg, shade_eq, bit, Bool.and_eq_true, decide_eq_true_eq]
    exact ⟨trivial, rfl⟩
  · simp only [compose, backWins, backColour, spriteColour, hg, bit, Bool.and_eq_true, Bool.or_eq_true,
      decide_eq_true_eq, and_assoc]
    exact ⟨rfl, rfl⟩

/-! ### The line (rules R390, R400, R430, R432) -/

/-- The columns drawn so far hold their composition, every other cell is as it was. -/
theorem read_drawnColumns (s : State) (order : List Nat) (n k : Nat) :
    ((List.range n).foldl (putPixel s order) s.lcd.fb).read k =
      if 160 * s.lcd.ly.toNat ≤ k ∧ k < 160 * s.lcd.ly.toNat + n then linePixel s order (k - 160 * s.lcd.ly.toNat)
      else s.lcd.fb.read k := by
  induction n with
  | zero => rw [if_neg (by omega)]; rfl
  | succ n ih =>
    rw [List.range_succ, List.foldl_append, List.foldl_cons, List.foldl_nil, putPixel, read_write, ih]
    rcases Nat.lt_trichotomy k (160 * s.lcd.ly.toNat + n) with hlt | heq | hgt
    · rw [if_neg (by omega)]
      exact if_congr (by omega) rfl rfl
    · rw [if_pos heq, if_pos (by omega), heq, Nat.add_sub_cancel_left]
    · rw [if_neg (by omega), if_neg (by omega), if_neg (by omega)]

/-- A row has 160 columns. -/
theorem read_drawnFb (s : State) (k : Nat) : (drawnFb s).read k =
    if 160 * s.lcd.ly.toNat ≤ k ∧ k < 160 * s.lcd.ly.toNat + 160
    then linePixel s (drawOrder s) (k - 160 * s.lcd.ly.toNat) else s.lcd.fb.read k :=
  read_drawnColumns s (drawOrder s) 160 k

/-- Settles O47: the row's cells are those of `read_drawnFb`. -/
theorem renderLineDrawsItsRowOnly : Obligations.RenderLineDrawsItsRowOnly := by
  intro s hly t wOn
  have ht : t = { s with lcd := { s.lcd with fb := drawnFb s, wlc := nextWlc s } } := if_pos hly
  have hw : winOn s = true ↔ wOn := winOn_iff s
  have hcells := read_drawnFb s
  clear_value t
  generalize drawnFb s = fb at ht hcells
  subst ht
  refine ⟨fun y x hx => ?_, fun hon => ?_, fun hoff => ?_, rfl⟩
  · have hcell := hcells (160 * y + x)
    by_cases hy : y = s.lcd.ly.toNat
    · rw [if_pos (by omega), hy, Nat.add_sub_cancel_left] at hcell
      rw [if_pos hy, hy]
      exact hcell
    · rw [if_neg (by omega)] at hcell
      rw [if_neg hy]
      exact hcell
  · show nextWlc s = _
    rw [nextWlc, if_pos (hw.mpr hon)]
  · show nextWlc s = _
    rw [nextWlc, if_neg (mt hw.mp hoff)]

/-! ### The frame (rule R431) -/

theorem channel8_eq : ∀ k : BitVec 5, channel8 k = (k.setWidth 8 <<< 3 ||| k.setWidth 8 >>> 2 : Byte) := by
  decide

/-- The channels of a colour are its fields, red lowest. -/
theorem rgb555to888_channels (r g b : BitVec 5) :
    rgb555to888 (b ++ g ++ r) = channel8 r ++ channel8 g ++ channel8 b := by
  have hr : (b ++ g ++ r).extractLsb' 0 5 = r := BitVec.extractLsb'_append_eq_right
  have hg : (b ++ g ++ r).extractLsb' 5 5 = g := by
    rw [BitVec.extractLsb'_append_eq_of_le (by decide)]
    exact BitVec.extractLsb'_append_eq_right
  have hb : (b ++ g ++ r).extractLsb' 10 5 = b := by
    rw [BitVec.extractLsb'_append_eq_of_le (by decide)]
    exact BitVec.extractLsb'_append_eq_left
  exact congrArg₂ (· ++ ·) (congrArg₂ (· ++ ·) (congrArg channel8 hr) (congrArg channel8 hg)) (congrArg channel8 hb)

/-! ### The conversion tables (rules R6, R431) -/

theorem colours_le_of_mem {t : Colours} {lo : Nat} (hwf : Colours.wfFrom lo t = true) {e : Nat × Colour} (he : e ∈ t) :
    lo ≤ e.1 := by
  induction t generalizing lo with
  | nil => nomatch he
  | cons d r ih =>
    simp only [Colours.wfFrom, Bool.and_eq_true, decide_eq_true_eq] at hwf
    obtain ⟨⟨⟨hlo, -⟩, -⟩, hrest⟩ := hwf
    rcases List.mem_cons.mp he with rfl | he
    · exact hlo
    · exact (hlo.trans (Nat.le_succ _)).trans (ih hrest he)

/-- A table in rising order answers its entry. -/
theorem colours_at_of_mem {t : Colours} {lo : Nat} (hwf : Colours.wfFrom lo t = true) {v : BitVec 15} {c : Colour}
    (hc : (v.toNat, c) ∈ t) : t.at v = c := by
  induction t generalizing lo with
  | nil => nomatch hc
  | cons d r ih =>
    simp only [Colours.wfFrom, Bool.and_eq_true] at hwf
    obtain ⟨-, hrest⟩ := hwf
    rcases List.mem_cons.mp hc with rfl | hc
    · exact if_pos rfl
    · have hlater : d.1 + 1 ≤ v.toNat := colours_le_of_mem hrest hc
      exact (if_neg (by omega)).trans (ih hrest hc)

theorem colours_at_of_not_mem {t : Colours} {v : BitVec 15} (h : ∀ e ∈ t, e.1 ≠ v.toNat) : t.at v = rgb555to888 v := by
  induction t with
  | nil => rfl
  | cons d r ih =>
    rw [List.forall_mem_cons] at h
    obtain ⟨hd, hr⟩ := h
    exact (if_neg hd).trans (ih hr)

section Frame

variable {cfg : Config} (fb : Memory 15) (y x : Nat)

theorem frameColour_one (hg : cfg.gen = .one) : frameColour cfg fb y x = cfg.shades.at (fb.read (160 * y + x)) := by
  rw [frameColour, presentColour, hg]

theorem frameColour_two (hg : cfg.gen = .two) : frameColour cfg fb y x = cfg.colours.at (fb.read (160 * y + x)) := by
  rw [frameColour, presentColour, hg]

end Frame

/-- Settles O51: a shade selects its colour, a colour its entry of the table, and the default is made of its channels. -/
theorem framesReachTheHostIn24BitColour : Obligations.FramesReachTheHostIn24BitColour := by
  refine ⟨fun _ => rfl, fun cfg fb y x hg => ?_, fun cfg fb y x hg hwf => ⟨fun c hc => ?_, fun hno r g b hv => ?_⟩, rfl,
    rfl⟩
  · rw [frameColour_one fb y x hg]
    refine ⟨fun hv => ?_, fun hv => ?_, fun hv => ?_, fun hv => ?_⟩ <;> rw [hv] <;> rfl
  · simp only [Config.wf, Bool.and_eq_true] at hwf
    rw [frameColour_two fb y x hg]
    exact colours_at_of_mem hwf.2 hc
  · simp only [← channel8_eq]
    rw [frameColour_two fb y x hg, colours_at_of_not_mem hno, hv]
    exact rgb555to888_channels r g b

end Sys2Proof.Machine
end

section
/-! PROOFS. Sprites: which entries of the table a line shows, and which of them shows in a column. -/

namespace Sys2Proof.Machine

/-! ### Selection (rule R411) -/

/-- Of a list in rising order the first `k` are kept, and one left out is beaten by all of them. -/
theorem take_beats {l : List Nat} (hl : l.Pairwise (· < ·)) {k n : Nat} (hn : n ∈ l) (hout : n ∉ l.take k) :
    (l.take k).length = k ∧ ∀ m ∈ l.take k, m < n := by
  rw [← List.take_append_drop k l] at hl hn
  have hdrop : n ∈ l.drop k := (List.mem_append.mp hn).resolve_left hout
  have hlen : k < l.length := by
    by_contra hge
    rw [List.drop_eq_nil_of_le (Nat.not_lt.mp hge)] at hdrop
    nomatch hdrop
  refine ⟨List.length_take_of_le hlen.le, fun m hm => ?_⟩
  obtain ⟨-, -, hbefore⟩ := List.pairwise_append.mp hl
  exact hbefore m hm n hdrop

/-- The entries on the line, in rising order. -/
def lineSprites (s : State) : List Nat := (List.range 40).filter (onLine s)

theorem mem_lineSprites {s : State} {n : Nat} : n ∈ lineSprites s ↔ n < 40 ∧ onLine s n = true := by
  rw [lineSprites, List.mem_filter, List.mem_range]

theorem lineSprites_rising (s : State) : (lineSprites s).Pairwise (· < ·) := List.pairwise_lt_range.filter _

theorem selected_on {s : State} (h : s.lcd.lcdc.getLsbD 1 = true) : selected s = (lineSprites s).take 10 := if_pos h

theorem selected_off {s : State} (h : ¬ s.lcd.lcdc.getLsbD 1 = true) : selected s = [] := if_neg h

theorem mem_selected {s : State} {n : Nat} (h : n ∈ selected s) :
    s.lcd.lcdc.getLsbD 1 = true ∧ n < 40 ∧ onLine s n = true := by
  by_cases hon : s.lcd.lcdc.getLsbD 1 = true
  · rw [selected_on hon] at h
    exact ⟨hon, mem_lineSprites.mp (List.mem_of_mem_take h)⟩
  · rw [selected_off hon] at h
    nomatch h

theorem selected_length (s : State) : (selected s).length ≤ 10 := by
  unfold selected
  split
  · exact List.length_take_le ..
  · exact Nat.zero_le _

theorem selected_nodup (s : State) : (selected s).Nodup := by
  unfold selected
  split
  · exact ((lineSprites_rising s).imp Nat.ne_of_lt).sublist (List.take_sublist ..)
  · exact List.nodup_nil

/-! ### The drawing order (rule R412) -/

/-- What the drawing order goes by: `ox` where it counts, then the index; the entry of the largest rank is drawn first. -/
def drawRank (s : State) (n : Nat) : ℕ ×ₗ ℕ := toLex (if xOrder s then spriteX s n else 0, n)

theorem drawRank_inj {s : State} {m n : Nat} (h : drawRank s m = drawRank s n) : m = n := congrArg (fun r => (ofLex r).2) h

theorem drawRank_lt (s : State) (n m : Nat) : drawRank s n < drawRank s m ↔
    if xOrder s = true then spriteX s n < spriteX s m ∨ (spriteX s n = spriteX s m ∧ n < m) else n < m := by
  unfold drawRank
  cases xOrder s <;> simp [Prod.Lex.toLex_lt_toLex]

theorem drawnBefore_iff (s : State) (m n : Nat) : drawnBefore s m n = true ↔ drawRank s n < drawRank s m := by
  rw [drawRank_lt, drawnBefore]
  cases xOrder s <;> simp [eq_comm (a := spriteX s m)]

theorem xOrder_iff (s : State) : xOrder s = true ↔ s.cfg.gen = .one ∨ s.lcd.opri = true := by
  cases hg : s.cfg.gen <;> simp [xOrder, hg]

theorem mem_insertSprite {s : State} {n m : Nat} {l : List Nat} : m ∈ insertSprite s n l ↔ m = n ∨ m ∈ l := by
  induction l with
  | nil => rw [insertSprite, List.mem_singleton]; simp
  | cons a r ih =>
    unfold insertSprite
    split
    · rw [List.mem_cons]
    · rw [List.mem_cons, ih, List.mem_cons, or_left_comm]

/-- Every entry is drawn before those that follow. -/
abbrev InDrawOrder (s : State) (l : List Nat) : Prop := l.Pairwise fun m n => drawRank s n < drawRank s m

theorem insertSprite_inDrawOrder {s : State} {n : Nat} {l : List Nat} (hl : InDrawOrder s l) (hn : n ∉ l) :
    InDrawOrder s (insertSprite s n l) := by
  induction l with
  | nil => exact List.pairwise_singleton ..
  | cons a r ih =>
    obtain ⟨ha, hr⟩ := List.pairwise_cons.mp hl
    rw [List.mem_cons, not_or] at hn
    obtain ⟨hna, hnr⟩ := hn
    unfold insertSprite
    split
    case isTrue h =>
      have hbefore := (drawnBefore_iff s n a).mp h
      exact List.pairwise_cons.mpr ⟨List.forall_mem_cons.mpr ⟨hbefore, fun m hm => (ha m hm).trans hbefore⟩, hl⟩
    case isFalse h =>
      have hafter : drawRank s n < drawRank s a :=
        lt_of_le_of_ne (not_lt.mp (mt (drawnBefore_iff s n a).mpr h)) fun heq => hna (drawRank_inj heq)
      refine List.pairwise_cons.mpr ⟨fun m hm => ?_, ih hr hnr⟩
      rcases mem_insertSprite.mp hm with rfl | hm
      · exact hafter
      · exact ha m hm

theorem sorted_foldr_insertSprite {s : State} {l : List Nat} (hl : l.Nodup) :
    (∀ n, n ∈ l.foldr (insertSprite s) [] ↔ n ∈ l) ∧ InDrawOrder s (l.foldr (insertSprite s) []) := by
  induction l with
  | nil => exact ⟨fun _ => Iff.rfl, List.Pairwise.nil⟩
  | cons a r ih =>
    obtain ⟨har, hr⟩ := List.nodup_cons.mp hl
    obtain ⟨hmem, hsorted⟩ := ih hr
    refine ⟨fun n => ?_, insertSprite_inDrawOrder hsorted (mt (hmem a).mp har)⟩
    rw [List.foldr_cons, mem_insertSprite, hmem, List.mem_cons]

theorem mem_drawOrder {s : State} {n : Nat} : n ∈ drawOrder s ↔ n ∈ selected s :=
  (sorted_foldr_insertSprite (selected_nodup s)).1 n

theorem drawOrder_inDrawOrder (s : State) : InDrawOrder s (drawOrder s) :=
  (sorted_foldr_insertSprite (selected_nodup s)).2

/-! ### The sprite layer (rule R414) -/

/-- Entry `n` covers the column with a colour other than 0. -/
abbrev Shows (s : State) (x n : Nat) : Prop := spriteX s n ≤ x + 8 ∧ x < spriteX s n ∧ spritePixel s n x ≠ 0

section Layer

variable {s : State} {x n : Nat} {below : Option Pixel}

theorem drawOver_shows (h : Shows s x n) :
    drawOver s x below n = some { idx := spritePixel s n x, attr := spriteAttr s n } := by
  obtain ⟨hleft, hright, hcolour⟩ := h
  simp [drawOver, covers, hleft, hright, hcolour]

theorem drawOver_hidden (h : ¬ Shows s x n) : drawOver s x below n = below := by
  have hnot : ¬ (covers s n x && decide (spritePixel s n x ≠ 0)) = true := by
    simpa only [covers, Bool.and_eq_true, decide_eq_true_eq, and_assoc] using h
  rw [drawOver, if_neg hnot]

theorem foldl_drawOver_hidden {l : List Nat} (h : ∀ n ∈ l, ¬ Shows s x n) : l.foldl (drawOver s x) below = below := by
  induction l with
  | nil => rfl
  | cons a r ih =>
    rw [List.forall_mem_cons] at h
    obtain ⟨ha, hr⟩ := h
    rw [List.foldl_cons, drawOver_hidden ha, ih hr]

/-- The last visible entry drawn stays on top. -/
theorem layerOf_last {before after : List Nat} (hn : Shows s x n) (hafter : ∀ m ∈ after, ¬ Shows s x m) :
    layerOf s (before ++ n :: after) x = some { idx := spritePixel s n x, attr := spriteAttr s n } := by
  rw [layerOf, List.foldl_append, List.foldl_cons, drawOver_shows hn, foldl_drawOver_hidden hafter]

end Layer

/-- Settles O48: the selection takes the first ten entries on the line (`take_beats`), and in drawing order the entry that
comes first by priority is the last visible one. -/
theorem spritePriority : Obligations.SpritePriority := by
  intro s x _ sel byX ox oy onTheLine shows before
  have honLine (n : Nat) : onLine s n = true ↔ onTheLine n := by
    simp only [onLine, Bool.and_eq_true, decide_eq_true_eq]
    rfl
  have hbefore (n m : Nat) : before n m ↔ drawRank s n < drawRank s m := by
    rw [drawRank_lt]
    exact iff_of_eq (if_congr (xOrder_iff s).symm rfl rfl)
  refine ⟨selected_length s, fun n hn => ?_, fun hon n hlt hline hout => ?_, fun hnone => ?_,
    fun n hn hshows hfirst => ?_⟩
  · obtain ⟨hon, hlt, hline⟩ := mem_selected hn
    exact ⟨hlt, (honLine n).mp hline, hon⟩
  · have hsel : sel = (lineSprites s).take 10 := selected_on hon
    rw [hsel] at hout ⊢
    exact take_beats (lineSprites_rising s) (mem_lineSprites.mpr ⟨hlt, (honLine n).mpr hline⟩) hout
  · exact foldl_drawOver_hidden fun n hn => hnone n (mem_drawOrder.mp hn)
  · obtain ⟨drawn, after, hsplit⟩ := List.append_of_mem (mem_drawOrder.mpr hn)
    have horder := drawOrder_inDrawOrder s
    have hmem (m : Nat) (hm : m ∈ after) : m ∈ sel :=
      mem_drawOrder.mp (hsplit ▸ List.mem_append_right drawn (List.mem_cons_of_mem n hm))
    rw [hsplit] at horder ⊢
    obtain ⟨-, hsorted, -⟩ := List.pairwise_append.mp horder
    obtain ⟨hlater, -⟩ := List.pairwise_cons.mp hsorted
    refine layerOf_last hshows fun m hm hm' => ?_
    have hrank : drawRank s m < drawRank s n := hlater m hm
    rcases hfirst m (hmem m hm) hm' with rfl | hlt
    · exact lt_irrefl _ hrank
    · exact lt_asymm hrank ((hbefore n m).mp hlt)

end Sys2Proof.Machine
end
